-- ==== Sys2Proof/Word.lean ====
section
/-! DEFINITION. The word types of the Runhal 1215's link and stitch store, and the fixed-length table
that holds its numbered records (32 designs, 15 needles, 12 heads). -/

namespace Sys2Proof

/-- One byte of the command link (R188). -/
abbrev Byte := BitVec 8

/-- A 16-bit value: a thread code, a match mask, a load sum (R2, R15, R112). -/
abbrev Half := BitVec 16

/-- A stitch record word (R2). -/
abbrev Word := BitVec 32

/-- Exactly `n` entries, so that an access by a number below `n` always finds one. -/
structure Table (n : Nat) (α : Type) where
  /-- The entries in number order. -/
  items : List α
  /-- There are `n` of them. -/
  size : items.length = n
  deriving DecidableEq, Repr

/-- A design number 0..31 (R10). -/
abbrev Design := Fin 32

/-- A head, held as its number less one: `0` is head 1 (R133). -/
abbrev Head := Fin 12

/-- A needle position, held as its number less one: `0` is needle 1 (R112). -/
abbrev Needle := Fin 15

end Sys2Proof
end

