-- ==== Sys2Proof/Syntax.lean ====
section
/-! DEFINITION. The commands of the block: one constructor for each row of spec/opcode_table.json.

A request (R192, Table 11-2) carries its PAYLOAD: the bytes of its frame after the command code, in the
order the host sends them, so that the length test of R192 and the byte order of R188 belong to the
command. An event of a machine line carries what the line shows. -/

namespace Sys2Proof

/-- The two axes of the pantograph frame (chapter 5). -/
inductive Axis where
  | x | y
  deriving DecidableEq, Repr

/-- Why a frame taken for processing is answered without its check or its code being of use (R192). -/
inductive FrameFlaw where
  /-- Marked overrun; the command code if it was stored (R191). -/
  | overrun (code : Option Byte)
  /-- The check is bad; the first body byte (R189). -/
  | badCheck (first : Byte)
  deriving DecidableEq, Repr

/-- The part's steps (spec/opcode_table.json, spec/95_what_each_step_holds.md). -/
inductive Instr where
  /-- POWER_ON (R202). -/
  | powerOn
  /-- RESET_PIN (R202). -/
  | resetPin
  /-- LINK_RESET (R201): the last byte of the RESET reply has been sent. -/
  | linkReset
  /-- FRAME_ASSEMBLED (R190): the check byte arrives in CHECK. -/
  | frameAssembled (check : Byte)
  /-- FRAME_GAP_TIMEOUT (R190). -/
  | frameGapTimeout
  /-- BAD_FRAME (R192): a flawed frame is taken for processing. -/
  | badFrame (flaw : FrameFlaw)
  /-- UNKNOWN_COMMAND (R192): a frame is taken whose code is not in Table 11-2. -/
  | unknownCommand (code : Byte) (payload : List Byte)
  /-- REPLY_PLACED (R193): room has come free for the reply that waits. -/
  | replyPlaced
  /-- IDENTIFY, 0x01 (R197). -/
  | identify (payload : List Byte)
  /-- STATUS, 0x02 (R195). -/
  | status (payload : List Byte)
  /-- HEAD_STATUS, 0x03 (R196). -/
  | headStatus (payload : List Byte)
  /-- NEEDLE_STATUS, 0x04 (R196). -/
  | needleStatus (payload : List Byte)
  /-- READ_CONFIG, 0x05 (R200). -/
  | readConfig (payload : List Byte)
  /-- CONFIGURE, 0x06 (R198). -/
  | configure (payload : List Byte)
  /-- RESET, 0x0F (R201). -/
  | reset (payload : List Byte)
  /-- LOAD_OPEN, 0x10 (R23). -/
  | loadOpen (payload : List Byte)
  /-- LOAD_DATA, 0x11 (R25). -/
  | loadData (payload : List Byte)
  /-- LOAD_CLOSE, 0x12 (R33). -/
  | loadClose (payload : List Byte)
  /-- LOAD_CANCEL, 0x13 (R35). -/
  | loadCancel (payload : List Byte)
  /-- READ_RECORDS, 0x14 (R37). -/
  | readRecords (payload : List Byte)
  /-- RETIRE, 0x15 (R18). -/
  | retire (payload : List Byte)
  /-- LOCK, 0x16 (R19). -/
  | lock (payload : List Byte)
  /-- UNLOCK, 0x17 (R19). -/
  | unlock (payload : List Byte)
  /-- DESCRIBE, 0x18 (R20). -/
  | describe (payload : List Byte)
  /-- LIST_DESIGNS, 0x19 (R20). -/
  | listDesigns (payload : List Byte)
  /-- START, 0x20 (R157). -/
  | start (payload : List Byte)
  /-- RESUME, 0x21 (R162). -/
  | resume (payload : List Byte)
  /-- STOP, 0x22 (R160). -/
  | stop (payload : List Byte)
  /-- QUICK_STOP, 0x23 (R161). -/
  | quickStop (payload : List Byte)
  /-- ABORT, 0x24 (R166). -/
  | abort (payload : List Byte)
  /-- BACK, 0x25 (R167). -/
  | back (payload : List Byte)
  /-- FORWARD, 0x26 (R167). -/
  | forward (payload : List Byte)
  /-- SET_SPEED, 0x27 (R103). -/
  | setSpeed (payload : List Byte)
  /-- HOME, 0x30 (R79). -/
  | home (payload : List Byte)
  /-- FRAME_MOVE, 0x31 (R81). -/
  | frameMove (payload : List Byte)
  /-- SHAFT_TO_TDC, 0x32 (R110). -/
  | shaftToTdc (payload : List Byte)
  /-- SELECT_NEEDLE, 0x33 (R129). -/
  | selectNeedle (payload : List Byte)
  /-- ASSIGN, 0x40 (R114). -/
  | assign (payload : List Byte)
  /-- CLEAR_NEEDLE, 0x41 (R115). -/
  | clearNeedle (payload : List Byte)
  /-- SPOOL, 0x42 (R116). -/
  | spool (payload : List Byte)
  /-- MEND, 0x43 (R149). -/
  | mend (payload : List Byte)
  /-- HEAD_ENABLE, 0x44 (R134). -/
  | headEnable (payload : List Byte)
  /-- BOBBIN_CHANGED, 0x45 (R150). -/
  | bobbinChanged (payload : List Byte)
  /-- NEXT_CONDITION, 0x50 (R183). -/
  | nextCondition (payload : List Byte)
  /-- LIST_CONDITIONS, 0x51 (R185). -/
  | listConditions (payload : List Byte)
  /-- ACK_CONDITION, 0x52 (R184). -/
  | ackCondition (payload : List Byte)
  /-- BURST_COMPLETE (R41). -/
  | burstComplete
  /-- ENCODER_COUNT_CHANGE (R91): the encoder now gives `count`. -/
  | encoderCountChange (count : BitVec 10)
  /-- WINDOW_OPEN_CROSSING (R93). -/
  | windowOpenCrossing
  /-- WINDOW_CLOSE_CROSSING (R97). -/
  | windowCloseCrossing
  /-- SHAFT_AT_REST (R92): 20 ms have passed without a change of the count. -/
  | shaftAtRest
  /-- MOVE_COMPLETE (R76): the last pulse of the move in flight is issued. -/
  | moveComplete
  /-- HOME_SWITCH_ACTIVE (R80): the axis finds its home switch. -/
  | homeSwitchActive (axis : Axis)
  /-- HOME_TRAVEL_LIMIT (R80): the axis has issued its travel limit of pulses. -/
  | homeTravelLimit (axis : Axis)
  /-- CARRIAGE_CODE_CHANGE (R121): the code inputs now give `code`. -/
  | carriageCodeChange (code : Fin 16)
  /-- CARRIAGE_STEP_TIMEOUT (R121). -/
  | carriageStepTimeout
  /-- CARRIAGE_SETTLE_END (R121). -/
  | carriageSettleEnd
  /-- THREAD_PULSE (R139): one pulse of the head's thread-travel sensor. -/
  | threadPulse (head : Head)
  /-- STOP_LINE_ACTIVE (R160). -/
  | stopLineActive
  /-- HALT_LINE_ACTIVE (R169). -/
  | haltLineActive
  /-- HALT_LINE_INACTIVE (R169). -/
  | haltLineInactive
  /-- SHAFT_STALL (R109): the stall timer runs out. -/
  | shaftStall
  /-- BYTE_ARRIVES (R190). -/
  | byteArrives (byte : Byte)
  /-- STOP_LINE_INACTIVE (R160). -/
  | stopLineInactive
  deriving DecidableEq, Repr

end Sys2Proof
end

