-- ==== Sys2Proof/Decode.lean ====
section
/-! DEFINITION. The command codes of Table 11-2, and the host's `decodeTableWord`. No row of
spec/opcode_table.json gives bits, so no word spells a command by the table. -/

namespace Sys2Proof

/-- The command a word spells by the opcode table's bits: the table gives none. -/
def decodeTableWord (_nbits _w : Nat) : Option Instr := none

/-- The command codes of Table 11-2, in its order (R192). -/
def requestCodes : List Byte :=
  [0x01, 0x02, 0x03, 0x04, 0x05, 0x06, 0x0F,
   0x10, 0x11, 0x12, 0x13, 0x14, 0x15, 0x16, 0x17, 0x18, 0x19,
   0x20, 0x21, 0x22, 0x23, 0x24, 0x25, 0x26, 0x27,
   0x30, 0x31, 0x32, 0x33, 0x40, 0x41, 0x42, 0x43, 0x44, 0x45, 0x50, 0x51, 0x52]

/-- The request a body of `code` and `payload` is (Table 11-2); none for a code the table lacks. -/
def requestOf (code : Byte) (payload : List Byte) : Option Instr :=
  match code.toNat with
  | 0x01 => some (.identify payload)
  | 0x02 => some (.status payload)
  | 0x03 => some (.headStatus payload)
  | 0x04 => some (.needleStatus payload)
  | 0x05 => some (.readConfig payload)
  | 0x06 => some (.configure payload)
  | 0x0F => some (.reset payload)
  | 0x10 => some (.loadOpen payload)
  | 0x11 => some (.loadData payload)
  | 0x12 => some (.loadClose payload)
  | 0x13 => some (.loadCancel payload)
  | 0x14 => some (.readRecords payload)
  | 0x15 => some (.retire payload)
  | 0x16 => some (.lock payload)
  | 0x17 => some (.unlock payload)
  | 0x18 => some (.describe payload)
  | 0x19 => some (.listDesigns payload)
  | 0x20 => some (.start payload)
  | 0x21 => some (.resume payload)
  | 0x22 => some (.stop payload)
  | 0x23 => some (.quickStop payload)
  | 0x24 => some (.abort payload)
  | 0x25 => some (.back payload)
  | 0x26 => some (.forward payload)
  | 0x27 => some (.setSpeed payload)
  | 0x30 => some (.home payload)
  | 0x31 => some (.frameMove payload)
  | 0x32 => some (.shaftToTdc payload)
  | 0x33 => some (.selectNeedle payload)
  | 0x40 => some (.assign payload)
  | 0x41 => some (.clearNeedle payload)
  | 0x42 => some (.spool payload)
  | 0x43 => some (.mend payload)
  | 0x44 => some (.headEnable payload)
  | 0x45 => some (.bobbinChanged payload)
  | 0x50 => some (.nextCondition payload)
  | 0x51 => some (.listConditions payload)
  | 0x52 => some (.ackCondition payload)
  | _ => none

/-- The frame body (command code, then payload) of a request; none for the other commands. -/
def requestBody : Instr → Option (Byte × List Byte)
  | .powerOn => none
  | .resetPin => none
  | .linkReset => none
  | .frameAssembled _ => none
  | .frameGapTimeout => none
  | .badFrame _ => none
  | .unknownCommand code p => some (code, p)
  | .replyPlaced => none
  | .identify p => some (0x01, p)
  | .status p => some (0x02, p)
  | .headStatus p => some (0x03, p)
  | .needleStatus p => some (0x04, p)
  | .readConfig p => some (0x05, p)
  | .configure p => some (0x06, p)
  | .reset p => some (0x0F, p)
  | .loadOpen p => some (0x10, p)
  | .loadData p => some (0x11, p)
  | .loadClose p => some (0x12, p)
  | .loadCancel p => some (0x13, p)
  | .readRecords p => some (0x14, p)
  | .retire p => some (0x15, p)
  | .lock p => some (0x16, p)
  | .unlock p => some (0x17, p)
  | .describe p => some (0x18, p)
  | .listDesigns p => some (0x19, p)
  | .start p => some (0x20, p)
  | .resume p => some (0x21, p)
  | .stop p => some (0x22, p)
  | .quickStop p => some (0x23, p)
  | .abort p => some (0x24, p)
  | .back p => some (0x25, p)
  | .forward p => some (0x26, p)
  | .setSpeed p => some (0x27, p)
  | .home p => some (0x30, p)
  | .frameMove p => some (0x31, p)
  | .shaftToTdc p => some (0x32, p)
  | .selectNeedle p => some (0x33, p)
  | .assign p => some (0x40, p)
  | .clearNeedle p => some (0x41, p)
  | .spool p => some (0x42, p)
  | .mend p => some (0x43, p)
  | .headEnable p => some (0x44, p)
  | .bobbinChanged p => some (0x45, p)
  | .nextCondition p => some (0x50, p)
  | .listConditions p => some (0x51, p)
  | .ackCondition p => some (0x52, p)
  | .burstComplete => none
  | .encoderCountChange _ => none
  | .windowOpenCrossing => none
  | .windowCloseCrossing => none
  | .shaftAtRest => none
  | .moveComplete => none
  | .homeSwitchActive _ => none
  | .homeTravelLimit _ => none
  | .carriageCodeChange _ => none
  | .carriageStepTimeout => none
  | .carriageSettleEnd => none
  | .threadPulse _ => none
  | .stopLineActive => none
  | .haltLineActive => none
  | .haltLineInactive => none
  | .shaftStall => none
  | .byteArrives _ => none
  | .stopLineInactive => none

end Sys2Proof
end

