-- ==== Sys2Proof/Config.lean ====
section
/-! DEFINITION. What the part fixes (store size, FIFO size, part code, the ends of the counters' ranges)
and the free values: constants without a body, one for each value that the manual leaves open. -/

namespace Sys2Proof.Config

/-- IDENTIFY's part code and revision (R197). -/
def partCode : Nat := 1215
def revision : Nat := 1

/-- The stitch store's size in records and in blocks of 64 (R40). -/
def storeRecords : Nat := 524288
def storeBlocks : Nat := 8192

/-- Both link FIFOs hold 256 bytes (R191, R193). -/
def fifoBytes : Nat := 256

/-- The frame marker (R188). -/
def marker : Byte := 0x7E

/-- The lookahead queue holds up to 16 entries, and the feed asks for more at 8 or fewer (R59, R64). -/
def queueSize : Nat := 16
def feedLevel : Nat := 8

/-- A store burst carries at most 8 records (R41). -/
def burstMax : Nat := 8

/-- Ordinals are 32-bit and saturate (R51, R55, R133). -/
def ordinalMax : Nat := 4294967295

/-- The signed 32-bit range of extents and running positions (R10, R30). -/
def int32Min : Int := -2147483648
def int32Max : Int := 2147483647

/-- Every speed in rpm and every time in µs or ms of the configuration is a 16-bit count. -/
def halfMax : Nat := 65535

/-- FREE VALUE (log 8): what a byte of a place holds after a cold reset abandoned the burst that was
writing it. R39 and R49 say that such places may hold partly written records. -/
opaque freeByte : Nat → Byte

/-- FREE VALUE (log 5): byte `i` of a reply payload whose items the manual gives and whose byte
layout it does not. -/
opaque layoutByte {α : Type} : α → Nat → Byte

end Sys2Proof.Config
end

