-- ==== Sys2Proof/Machine/Tables.lean ====
section
/-! DEFINITION. Reading and writing the fixed-length tables of records. -/

namespace Sys2Proof.Table

variable {n : Nat} {α β : Type}

/-- Entry `i`. -/
def get (t : Table n α) (i : Fin n) : α := t.items[i.val]'(by rw [t.size]; exact i.isLt)

/-- The table whose entry `i` is `f i`. -/
def ofFn (f : Fin n → α) : Table n α := ⟨List.ofFn f, List.length_ofFn⟩

/-- The table with entry `i` replaced. -/
def set (t : Table n α) (i : Fin n) (a : α) : Table n α :=
  ⟨t.items.set i.val a, by rw [List.length_set]; exact t.size⟩

/-- Every entry the same. -/
def fill (a : α) : Table n α := ⟨List.replicate n a, List.length_replicate⟩

/-- Every entry changed by `f`. -/
def map (f : α → β) (t : Table n α) : Table n β :=
  ⟨t.items.map f, by rw [List.length_map]; exact t.size⟩

/-- Every entry changed by `f`, which sees its number. -/
def mapIdx (f : Fin n → α → β) (t : Table n α) : Table n β := ofFn fun i => f i (t.get i)

end Sys2Proof.Table
end

