-- ==== Sys2Proof/Machine/State.lean ====
section
/-! DEFINITION. The state of the 1215: every register, table, queue, buffer, counter, mode and line
that the manual names, as plain data, and its value right after a cold reset. -/

namespace Sys2Proof.Machine

/-! ## Configuration (chapter 11) -/

/-- arbiter_mode (R43). -/
inductive ArbiterMode where
  | feedFirst | loaderFirst | rotate
  deriving DecidableEq, Repr

/-- break_policy (R143). -/
inductive BreakPolicy where
  | stop | runOn
  deriving DecidableEq, Repr

/-- The configuration record, Table 11-4, in index order. -/
structure Configuration where
  headsInstalled : Nat
  needlesInstalled : Nat
  windowOpen : Nat
  windowClose : Nat
  tdcBand : Nat
  speedMax : Nat
  speedMin : Nat
  speedTrim : Nat
  accelStep : Nat
  decelStep : Nat
  rampAllowance : Nat
  stepPeriod : Nat
  fieldXlo : Int
  fieldXhi : Int
  fieldYlo : Int
  fieldYhi : Int
  homeX : Int
  homeY : Int
  stallSelect : Nat
  carriageStepTimeout : Nat
  carriageSettle : Nat
  loopAllowance : Nat
  pulseLength : Nat
  breakThreshold : Nat
  looseThreshold : Nat
  looseQuiet : Nat
  mendLead : Nat
  bobbinCapacity : Nat
  bobbinWarnPercent : Nat
  breakPolicy : BreakPolicy
  autoResume : Bool
  arbiterMode : ArbiterMode
  deriving DecidableEq, Repr

/-- The record of defaults (Table 11-4). -/
def Configuration.defaults : Configuration where
  headsInstalled := 12
  needlesInstalled := 15
  windowOpen := 704
  windowClose := 224
  tdcBand := 16
  speedMax := 1200
  speedMin := 120
  speedTrim := 200
  accelStep := 60
  decelStep := 150
  rampAllowance := 6000
  stepPeriod := 100
  fieldXlo := 0
  fieldXhi := 4000
  fieldYlo := 0
  fieldYhi := 4500
  homeX := 0
  homeY := 0
  stallSelect := 4
  carriageStepTimeout := 300
  carriageSettle := 40
  loopAllowance := 12
  pulseLength := 5
  breakThreshold := 120
  looseThreshold := 160
  looseQuiet := 64
  mendLead := 3
  bobbinCapacity := 8000
  bobbinWarnPercent := 85
  breakPolicy := .stop
  autoResume := false
  arbiterMode := .feedFirst

/-! ## Designs, records and path positions (chapters 1 and 4) -/

/-- A frame position in steps, or a displacement in steps or su (R74). -/
structure Point where
  x : Int
  y : Int
  deriving DecidableEq, Repr

/-- A legal stitch record (R2, R3). A CALL holds its repetition count 1..16. -/
inductive Record where
  | stitch (dx dy : Int)
  | jump (dx dy : Int)
  | trim
  | colour (code : Half)
  | call (motif : Design) (reps : Nat)
  | pause
  | endRec
  deriving DecidableEq, Repr

/-- An extent in su (R13). -/
structure Box where
  xMin : Int
  xMax : Int
  yMin : Int
  yMax : Int
  deriving DecidableEq, Repr

/-- The attribute set of a descriptor (R12). -/
structure Attributes where
  startable : Bool
  callable : Bool
  locked : Bool
  deriving DecidableEq, Repr

/-- The fields that a LOADING and a READY descriptor share (R10). -/
structure DesignBody where
  attrs : Attributes
  base : Nat
  length : Nat
  extent : Box
  /-- Extent completeness: `true` is COMPLETE, `false` PARTIAL. -/
  complete : Bool
  colourCount : Nat
  colours : List Half
  truncated : Bool
  sum : Half
  deriving DecidableEq, Repr

/-- A descriptor of the design table, with the fields R10 shows present in its state. -/
inductive Descriptor where
  | empty
  | loading (body : DesignBody) (cursor : Nat)
  | ready (body : DesignBody) (netMove : Option Point)
  deriving DecidableEq, Repr

/-- A chain frame (R52); `reps` is the repetition count of the CALL that opened it, 1 for the main
design. -/
structure ChainFrame where
  design : Design
  index : Nat
  rep : Nat
  reps : Nat
  deriving DecidableEq, Repr

/-- A path position (R52): the innermost frame, and the frames above it, NEAREST FIRST, so that
the main design's frame comes last. -/
structure Position where
  inner : ChainFrame
  callers : List ChainFrame
  deriving DecidableEq, Repr

/-- Why a CALL fails at the feed (R62). -/
inductive FaultReason where
  | motifAbsent | notCallable | recursive | tooDeep
  deriving DecidableEq, Repr

/-- The kind of a queue entry with the fields present for it (R64). -/
inductive EntryKind where
  | stitch (dx dy : Int)
  | jump (dx dy : Int)
  | trim
  | colour (code : Half)
  | pause
  | endMain
  | fault (reason : FaultReason)
  deriving DecidableEq, Repr

/-- A lookahead queue entry with its annotation (R64, R82, R83). -/
structure Entry where
  kind : EntryKind
  pos : Position
  /-- Major count m in steps. -/
  steps : Nat
  /-- Move time T in µs. -/
  time : Nat
  nMax : Nat
  stationary : Bool
  planned : Point
  limit : Bool
  deriving DecidableEq, Repr

/-! ## The loader, the store and the arbiter (chapters 2 and 3) -/

/-- A HOLDING staging buffer (R27). -/
structure Staging where
  first : Nat
  records : List Word
  written : Nat
  deriving DecidableEq, Repr

/-- The open load context (R22). Cursor, running sum and tracking are the LOADING descriptor's own
fields, which R22 keeps equal to the context's (log 22). -/
structure LoadContext where
  design : Design
  /-- The running position; absent when not tracked. -/
  position : Option Point
  buffer0 : Option Staging
  buffer1 : Option Staging
  /-- Fill order: buffer 1 was filled earlier. -/
  olderIs1 : Bool
  deriving DecidableEq, Repr

/-- A claimant of the store (R41). -/
inductive Claimant where
  | feed | loader | readback
  deriving DecidableEq, Repr

/-- The burst in flight: the four items fixed at its grant (R41), the records a LOADER burst carries,
and whether the work it was granted for has ended (R48). -/
structure Burst where
  claimant : Claimant
  base : Nat
  first : Nat
  count : Nat
  records : List Word
  stale : Bool
  deriving DecidableEq, Repr

/-- An accepted READ_RECORDS and the records read for it so far (R38). -/
structure ReadBack where
  design : Design
  index : Nat
  count : Nat
  got : List Word
  deriving DecidableEq, Repr

/-! ## The path feed and the walk (chapter 4) -/

/-- The feed's activity (R58). -/
inductive Activity where
  | idle | filling | finished | walking
  deriving DecidableEq, Repr

/-- The path feed: its activity, its blocked flag, and the fetch position, that of the next record it will read, which
it always holds (R58). -/
structure Feed where
  activity : Activity
  blocked : Bool
  fetch : Position
  deriving DecidableEq, Repr

/-- The direction of a walk (R68). -/
inductive WalkDir where
  | backward | forward
  deriving DecidableEq, Repr

/-- The records of a walk's latest burst (R68). -/
structure Held where
  design : Design
  first : Nat
  records : List Word
  deriving DecidableEq, Repr

/-- A walk in progress (R68): its counts, the records it keeps, and the position whose record it
waits to read, absent while a trace move is in flight. -/
structure Walk where
  dir : WalkDir
  count : Nat
  done : Nat
  held : Option Held
  want : Option Position
  deriving DecidableEq, Repr

/-! ## Frame motion (chapter 5) -/

/-- The kinds of move (chapter 5). -/
inductive MoveKind where
  | sewing | stationary | trace | residual | host
  deriving DecidableEq, Repr

/-- A move in flight (R76): `issued` counts the major pulses issued so far. -/
structure Move where
  kind : MoveKind
  start : Point
  disp : Point
  time : Nat
  issued : Nat
  deriving DecidableEq, Repr

/-- A follow-on move behind the move in flight (R84). -/
structure FollowOn where
  disp : Point
  time : Nat
  deriving DecidableEq, Repr

/-- One axis while HOMING (R80), with its allowance in µs (R77, log 42). -/
structure HomeAxis where
  found : Bool
  pulses : Nat
  time : Nat
  deriving DecidableEq, Repr

/-- The frame state with what is present in it (R74, R75). -/
inductive FrameState where
  | unknown
  | homing (x y : HomeAxis)
  | known (p : Point)
  | moving (m : Move)
  deriving DecidableEq, Repr

/-- The last homing result (R79). -/
inductive HomingResult where
  | none | homed | homeFailed | interrupted
  deriving DecidableEq, Repr

/-- The level of a direction output (R76, R90). -/
inductive Direction where
  | inactive | positive | negative
  deriving DecidableEq, Repr

/-- The frame motion unit. -/
structure FrameUnit where
  state : FrameState
  followOn : Option FollowOn
  residual : Option Point
  homing : HomingResult
  overruns : Nat
  dirX : Direction
  dirY : Direction
  deriving DecidableEq, Repr

/-! ## The shaft (chapter 6) -/

/-- The shaft state (R92). -/
inductive ShaftState where
  | still | turning | parking | positioning | braking | coasting
  deriving DecidableEq, Repr

/-- The stop request (R104). -/
inductive StopRequest where
  | none | controlled | quick
  deriving DecidableEq, Repr

/-- The kind of a record begun, with what its completion charges (R93, R138). -/
inductive RevKind where
  | stitch (dx dy : Int)
  | jump
  | trim
  deriving DecidableEq, Repr

/-- The record in progress or pending completion, with its penetrating set (R135). `awaiting` while
its stationary move has not completed (R86, R96). -/
structure Active where
  kind : RevKind
  pen : Table 12 Bool
  awaiting : Bool
  deriving DecidableEq, Repr

/-- The shaft controller. -/
structure Shaft where
  /-- The encoder count. -/
  angle : BitVec 10
  /-- The present count was reached by a count change that made its crossing (log 4). -/
  crossed : Bool
  /-- 20 ms have passed without a change of the count. -/
  atRest : Bool
  state : ShaftState
  /-- The speed command in rpm. -/
  command : Nat
  /-- The drive enable output. -/
  enable : Bool
  /-- Vprev: V0 of the latest begin point, speed_min once at rest (R98). -/
  vPrev : Nat
  /-- The effective cap. -/
  capEff : Nat
  hostCap : Nat
  stopReq : StopRequest
  backoff : Bool
  /-- The record in progress. -/
  active : Option Active
  /-- That record is pending completion (R107). -/
  pendingFlag : Bool
  deriving DecidableEq, Repr

/-! ## Needles and carriage (chapter 7) -/

/-- A per-head needle state (R113). -/
inductive NeedleState where
  | ready | broken | empty
  deriving DecidableEq, Repr

/-- The fields of a valid needle entry (R112). -/
structure Thread where
  code : Half
  mask : Half
  ceiling : Nat
  deriving DecidableEq, Repr

/-- A needle entry: valid when it holds a thread (R112). -/
structure NeedleEntry where
  thread : Option Thread
  perHead : Table 12 NeedleState
  deriving DecidableEq, Repr

/-- A direction of the carriage: up is toward higher positions (R120). -/
inductive CarriageDir where
  | up | down
  deriving DecidableEq, Repr

/-- The carriage state with target and step expected (R120). A step with no position expected is the
search step of R130. -/
inductive CarriageState where
  | idle
  | stepping (target : Needle) (expected : Option Needle)
  | settling (target : Needle)
  deriving DecidableEq, Repr

/-- The carriage controller (R120); `code` is the level of the code inputs. -/
structure Carriage where
  code : Fin 16
  state : CarriageState
  last : Option Needle
  dir : Option CarriageDir
  deriving DecidableEq, Repr

/-! ## Heads (chapter 8) -/

/-- The state of a head with the ordinal present in it (R133). -/
inductive HeadState where
  | off
  | idle
  | sewing
  | waiting (resumeAt : Nat)
  | broken (mend : Nat)
  deriving DecidableEq, Repr

/-- A head record (R133). -/
structure HeadRecord where
  state : HeadState
  balance : Int
  grace : Nat
  looseQuiet : Option Nat
  meter : Nat
  latch : Bool
  trimmer : Bool
  deriving DecidableEq, Repr

/-! ## Conditions (chapter 10) -/

/-- A condition key: its kind, and its head for a per-head kind (R176). -/
inductive Key where
  | shaftStall
  | carriageFault
  | frameLimit
  | recordFault
  | needleUnmatched
  | threadBreak (head : Head)
  | threadLoose (head : Head)
  | bobbinLow (head : Head)
  deriving DecidableEq, Repr

/-- The state of an entry (section 10.2): OPEN, HELD, CLEARED. -/
inductive CondState where
  | opened | held | cleared
  deriving DecidableEq, Repr

/-- A carriage fault's detail (R128). -/
inductive CarriageFault where
  | lost | wrongPosition | timeout | shaftMoved
  deriving DecidableEq, Repr

/-- Why no needle matched (R119). -/
inductive Unmatched where
  | none | ambiguous
  deriving DecidableEq, Repr

/-- A thread break's detail (R151). -/
inductive BreakCause where
  | upper | bobbin | needleNotReady
  deriving DecidableEq, Repr

/-- The detail of an entry, by kind (R177). -/
inductive Detail where
  | none
  | shaft (state : ShaftState)
  | carriage (fault : CarriageFault)
  | limit (planned : Point) (passesX passesY : Bool)
  | recordFault (reason : FaultReason)
  | unmatched (reason : Unmatched) (code : Half)
  | threadBreak (cause : BreakCause)
  | meter (su : Nat)
  deriving DecidableEq, Repr

/-- A condition entry (R177); its severity is the kind's. -/
structure Condition where
  key : Key
  state : CondState
  repeats : Nat
  needle : Option Needle
  detail : Detail
  ordinal : Nat
  position : Option Position
  deriving DecidableEq, Repr

/-! ## The run record (chapters 4 and 9) -/

/-- The run state (R155). -/
inductive RunState where
  | idle | running | changing | stopping | stopped | backing | halted
  deriving DecidableEq, Repr

/-- The stop reason (R156). -/
inductive StopReason where
  | none | hostStop | quickStop | stopLine | pause | colourDone | breakStop | blockEndBroken
  | noHeads | frameLimit | recordFault | needleUnmatched | carriageFault | haltLine | shaftStall
  deriving DecidableEq, Repr

/-- The last run result (R154). -/
inductive RunResult where
  | none | complete | aborted | reset
  deriving DecidableEq, Repr

/-- The run record (R51, R154). -/
structure Run where
  state : RunState
  reason : StopReason
  result : RunResult
  /-- The current needle. -/
  needle : Option Needle
  blockEnd : Bool
  pendingStop : Bool
  /-- The execution chain. -/
  chain : Option Position
  visited : List Design
  /-- The path ordinal P. -/
  ordinal : Nat
  /-- The frontier F. -/
  frontier : Nat
  /-- The block start Pb. -/
  blockStart : Nat
  resume : Option Position
  lastTrace : Nat
  deriving DecidableEq, Repr

/-! ## Replies and the link (chapter 11) -/

/-- Reply statuses (Table 11-3). -/
inductive Status where
  | ok | unknownCommand | badArgument | wrongState | badFrame | overrun
  | haltActive | notHomed | notAtTdc | carriageLost | noHeads | field
  | notFound | badType | inUse | locked | overlap
  | loadActive | noLoad | sequence | pending | loadMismatch
  | bobbinSpent
  deriving DecidableEq, Repr

/-- The reset cause (R197). -/
inductive ResetCause where
  | power | pin | link
  deriving DecidableEq, Repr

/-- A chain frame as a request reports it: the repetition count is not reported (R52). -/
structure ReportedFrame where
  design : Design
  index : Nat
  rep : Nat
  deriving DecidableEq, Repr

/-- What STATUS reports (R195), with the pending stop (R154); an absent item is `none`, an absent needle
0. -/
structure StatusReport where
  runChange : Bool
  attention : Bool
  runState : RunState
  reason : StopReason
  result : RunResult
  blockEnd : Bool
  pendingStop : Bool
  ordinal : Nat
  frontier : Nat
  blockStart : Nat
  /-- 1 to 4 frames, outermost first (R52). -/
  resume : Option (List ReportedFrame)
  lastTrace : Nat
  speed : Nat
  hostCap : Nat
  shaftState : ShaftState
  angle : BitVec 10
  atRest : Bool
  atTdc : Bool
  recordPending : Bool
  frameState : FrameState
  position : Option Point
  homing : HomingResult
  residual : Option Point
  overruns : Nat
  code : Fin 16
  carriage : CarriageState
  needle : Nat
  heads : Table 12 HeadState
  load : Option (Design × Nat)
  deriving DecidableEq, Repr

/-- What HEAD_STATUS reports of one head (R196). -/
structure HeadReport where
  state : HeadState
  ordinal : Nat
  balance : Int
  grace : Nat
  looseQuiet : Nat
  meter : Nat
  latch : Bool
  trimmer : Bool
  deriving DecidableEq, Repr

/-- What NEEDLE_STATUS reports of one needle (R196). -/
structure NeedleReport where
  valid : Bool
  code : Half
  mask : Half
  ceiling : Nat
  perHead : Table 12 NeedleState
  deriving DecidableEq, Repr

/-- The state of a descriptor as LIST_DESIGNS gives it (R20). -/
inductive DesignState where
  | empty | loading | ready
  deriving DecidableEq, Repr

/-- One item of LIST_DESIGNS (R20). -/
structure DesignItem where
  state : DesignState
  attrs : Attributes
  inUse : Bool
  deriving DecidableEq, Repr

/-- A condition entry as a request reports it (R177, R183, R185). -/
structure ConditionReport where
  key : Key
  severity : Nat
  state : CondState
  repeats : Nat
  needle : Option Needle
  detail : Detail
  ordinal : Nat
  position : Option (List ReportedFrame)
  deriving DecidableEq, Repr

/-- The payload of a reply: the items its rule gives. -/
inductive Payload where
  | empty
  /-- SEQUENCE and LOAD_DATA's cursor (R25), an index at which a chunk fails (R25). -/
  | index (i : Nat)
  /-- The first failing field of CONFIGURE (R198), in 1 byte (log 5). -/
  | fieldIndex (i : Nat)
  /-- LOAD_MISMATCH (R33). -/
  | mismatch (cursor : Nat) (sum : Half)
  /-- LOAD_CLOSE's completeness (R34). -/
  | completeness (complete : Bool)
  /-- READ_RECORDS (R38), its count in 1 byte (log 5). -/
  | records (index count : Nat) (words : List Word)
  /-- LOCK and UNLOCK (R19), in LOAD_OPEN's attribute byte (log 5). -/
  | attributes (attrs : Attributes)
  /-- DESCRIBE (R20). -/
  | design (d : Descriptor) (inUse : Bool)
  /-- LIST_DESIGNS (R20). -/
  | designs (items : List DesignItem)
  /-- SET_SPEED's and ASSIGN's applied value (R103, R114). -/
  | speed (rpm : Nat)
  /-- SPOOL (R116), in the request's state byte (log 5). -/
  | needleState (state : NeedleState)
  /-- MEND (R149). -/
  | headState (state : HeadState)
  /-- HEAD_ENABLE (R134). -/
  | mask (bits : Half)
  /-- IDENTIFY (R197). -/
  | identity (part revision records heads needles : Nat) (cause : ResetCause)
  /-- STATUS (R195). -/
  | status (report : StatusReport)
  /-- HEAD_STATUS (R196). -/
  | heads (mask : Half) (reports : List HeadReport)
  /-- NEEDLE_STATUS (R196); 0 for no current needle. -/
  | needles (current : Nat) (reports : List NeedleReport)
  /-- READ_CONFIG (R200). -/
  | config (record : Configuration)
  /-- NEXT_CONDITION (R183): the entry with its place, and the count left. -/
  | nextCondition (entry : Option (Nat × ConditionReport)) (left : Nat)
  /-- LIST_CONDITIONS (R185): entries in the table, change count, the entries with their places. -/
  | conditions (total changes : Nat) (entries : List (Nat × ConditionReport))
  /-- ACK_CONDITION (R184): the state found, and whether the entry is still in the table. -/
  | acknowledged (found : CondState) (kept : Bool)
  deriving DecidableEq, Repr

/-- A reply: echoed command code, status and payload (R188). -/
structure Reply where
  code : Byte
  status : Status
  payload : Payload
  deriving DecidableEq, Repr

/-- The frame assembler (R190). A lost byte is `none` (R191). -/
inductive Assembler where
  | hunting
  | length
  | body (n : Nat) (got : List (Option Byte))
  | check (n : Nat) (got : List (Option Byte))
  deriving DecidableEq, Repr

/-- A complete frame in the receive FIFO (R190, R191). -/
structure RxFrame where
  length : Nat
  body : List (Option Byte)
  check : Option Byte
  deriving DecidableEq, Repr

/-- The link interface. -/
structure Link where
  asm : Assembler
  /-- Complete frames waiting, oldest first. -/
  rx : List RxFrame
  /-- Replies in the transmit FIFO, oldest first, and the bytes of the oldest already sent. -/
  tx : List Reply
  txSent : Nat
  /-- A reply waiting for room (R193). -/
  waiting : Option Reply
  readBack : Option ReadBack
  /-- RESET has been taken, and the link takes no further frame (R201). -/
  resetting : Bool
  runChange : Bool
  cause : ResetCause
  deriving DecidableEq, Repr

/-! ## The whole state -/

/-- The state of the 1215. -/
structure State where
  config : Configuration
  link : Link
  designs : Table 32 Descriptor
  load : Option LoadContext
  /-- The stitch store: (byte address, byte) pairs in canonical form (R40, log 7). -/
  store : List Host.Cell
  burst : Option Burst
  lastGranted : Claimant
  feed : Feed
  walk : Option Walk
  queue : List Entry
  frame : FrameUnit
  shaft : Shaft
  needles : Table 15 NeedleEntry
  carriage : Carriage
  heads : Table 12 HeadRecord
  /-- The enable mask: bit h − 1 stands for head h. -/
  enable : Half
  conditions : List Condition
  changes : Nat
  run : Run
  /-- Levels of the safety halt and stop-button inputs. -/
  haltLine : Bool
  stopLine : Bool
  /-- The model's own: how many free values have been used (log 8). -/
  free : Nat
  /-- The commands that wait, oldest first. -/
  pending : List Instr
  deriving DecidableEq, Repr

/-- Why the machine stops. Both are raised by BURST_COMPLETE alone, in states that R3, R11 and R40
exclude; both are safe, since the manual gives no effect there. -/
inductive Fault where
  /-- A burst's place lies outside the 524,288 records of the store (R40). Safe. -/
  | storeOutside
  /-- The feed or the walk meets a stored word that is no legal record (R3). Safe. -/
  | illegalRecord
  deriving DecidableEq, Repr

/-- Why a command has no meaning. -/
inductive Refusal where
  /-- Raised by an arm of `exec` that has no meaning yet; safe. No arm raises it. -/
  | notModelled (mnemonic : String)
  deriving DecidableEq, Repr

/-- The three outcomes of a command. -/
abbrev Outcome := Host.Outcome State Fault Refusal

/-! ## Reset -/

/-- A head after a cold reset, enabled (R153). -/
def HeadRecord.cold : HeadRecord :=
  { state := .idle, balance := 0, grace := 0, looseQuiet := none, meter := 0, latch := false,
    trimmer := false }

/-- The machine right after a power-on, with the shaft at rest at count 0, the carriage between two
positions and both lines inactive (log 6). A reset leaves the feed the fetch position [(0, 0, 1)] (log 32). -/
def State.reset : State where
  config := .defaults
  link :=
    { asm := .hunting, rx := [], tx := [], txSent := 0, waiting := none, readBack := none,
      resetting := false, runChange := false, cause := .power }
  designs := .fill .empty
  load := none
  store := []
  burst := none
  lastGranted := .readback
  feed := { activity := .idle, blocked := false, fetch := ⟨⟨0, 0, 1, 1⟩, []⟩ }
  walk := none
  queue := []
  frame :=
    { state := .unknown, followOn := none, residual := none, homing := .none, overruns := 0,
      dirX := .inactive, dirY := .inactive }
  shaft :=
    { angle := 0, crossed := false, atRest := true, state := .still, command := 0, enable := false,
      vPrev := 120, capEff := 1200, hostCap := 1200, stopReq := .none, backoff := false,
      active := none, pendingFlag := false }
  needles := .fill { thread := none, perHead := .fill .ready }
  carriage := { code := 0, state := .idle, last := none, dir := none }
  heads := .fill .cold
  enable := 0x0FFF
  conditions := []
  changes := 0
  run :=
    { state := .idle, reason := .none, result := .none, needle := none, blockEnd := false,
      pendingStop := false, chain := none, visited := [], ordinal := 0, frontier := 0,
      blockStart := 0, resume := none, lastTrace := 0 }
  haltLine := false
  stopLine := false
  free := 0
  pending := []

end Sys2Proof.Machine
end

