-- ==== Sys2Proof/Machine/Records.lean ====
section
/-! DEFINITION. Stitch records (R2 to R4) and path positions (R52, R69). -/

namespace Sys2Proof.Machine

/-! ## Records -/

/-- The record a word is, when it is legal in itself: kind 0..6, spare bits 0, fields in range
(Table 1-1, R3). -/
def decodeRecord (w : Word) : Option Record :=
  match (w.extractLsb' 28 4).toNat with
  | 0 =>
    if w.extractLsb' 16 12 = 0 ∧ (w.extractLsb' 8 8).toInt ≠ -128 ∧ (w.extractLsb' 0 8).toInt ≠ -128 then
      some (.stitch (w.extractLsb' 8 8).toInt (w.extractLsb' 0 8).toInt)
    else none
  | 1 =>
    if w.extractLsb' 24 4 = 0 ∧ (w.extractLsb' 12 12).toInt ≠ -2048 ∧ (w.extractLsb' 0 12).toInt ≠ -2048 then
      some (.jump (w.extractLsb' 12 12).toInt (w.extractLsb' 0 12).toInt)
    else none
  | 2 => if w.extractLsb' 0 28 = 0 then some .trim else none
  | 3 => if w.extractLsb' 16 12 = 0 then some (.colour (w.extractLsb' 0 16)) else none
  | 4 =>
    if w.extractLsb' 21 7 = 0 ∧ w.extractLsb' 4 12 = 0 then
      some (.call (w.extractLsb' 16 5).toFin ((w.extractLsb' 0 4).toNat + 1))
    else none
  | 5 => if w.extractLsb' 0 28 = 0 then some .pause else none
  | 6 => if w.extractLsb' 0 28 = 0 then some .endRec else none
  | _ => none

/-- The word of a record (Table 1-1). -/
def encodeRecord : Record → Word
  | .stitch dx dy => (0 : BitVec 4) ++ (0 : BitVec 12) ++ BitVec.ofInt 8 dx ++ BitVec.ofInt 8 dy
  | .jump dx dy => (1 : BitVec 4) ++ (0 : BitVec 4) ++ BitVec.ofInt 12 dx ++ BitVec.ofInt 12 dy
  | .trim => (2 : BitVec 4) ++ (0 : BitVec 28)
  | .colour code => (3 : BitVec 4) ++ (0 : BitVec 12) ++ code
  | .call motif reps =>
    (4 : BitVec 4) ++ (0 : BitVec 7) ++ BitVec.ofNat 5 motif.val ++ (0 : BitVec 12) ++ BitVec.ofNat 4 (reps - 1)
  | .pause => (5 : BitVec 4) ++ (0 : BitVec 28)
  | .endRec => (6 : BitVec 4) ++ (0 : BitVec 28)

/-- The ranges of R3 on the fields of a record. -/
def Record.legal : Record → Bool
  | .stitch dx dy => decide (-127 ≤ dx ∧ dx ≤ 127 ∧ -127 ≤ dy ∧ dy ≤ 127)
  | .jump dx dy => decide (-2047 ≤ dx ∧ dx ≤ 2047 ∧ -2047 ≤ dy ∧ dy ≤ 2047)
  | .trim => true
  | .colour _ => true
  | .call _ reps => decide (1 ≤ reps ∧ reps ≤ 16)
  | .pause => true
  | .endRec => true

/-- Whether a record stands legally at `index` of design `d` of length `n` (R4, R26). -/
def Record.standsAt (r : Record) (d : Design) (n index : Nat) : Bool :=
  match r with
  | .endRec => decide (index + 1 = n)
  | .call motif _ => decide (index + 1 ≠ n) && decide (motif ≠ d)
  | .stitch _ _ => decide (index + 1 ≠ n)
  | .jump _ _ => decide (index + 1 ≠ n)
  | .trim => decide (index + 1 ≠ n)
  | .colour _ => decide (index + 1 ≠ n)
  | .pause => decide (index + 1 ≠ n)

/-- Whether a word passes R26 at `index` of design `d` of length `n`. -/
def wordPasses (d : Design) (n index : Nat) (w : Word) : Bool :=
  match decodeRecord w with
  | none => false
  | some r => r.standsAt d n index

/-- The index of the first word of a chunk that fails R26. -/
def firstFailing (d : Design) (n : Nat) : Nat → List Word → Option Nat
  | _, [] => none
  | index, w :: ws => if wordPasses d n index w then firstFailing d n (index + 1) ws else some index

/-- The displacement of a movement record in su (R5). -/
def Record.move? : Record → Option Point
  | .stitch dx dy => some ⟨dx, dy⟩
  | .jump dx dy => some ⟨dx, dy⟩
  | .trim => none
  | .colour _ => none
  | .call _ _ => none
  | .pause => none
  | .endRec => none

/-! ## Points -/

/-- The sum of two displacements. -/
def Point.add (p q : Point) : Point := ⟨p.x + q.x, p.y + q.y⟩

/-- The difference of two positions. -/
def Point.sub (p q : Point) : Point := ⟨p.x - q.x, p.y - q.y⟩

/-- A displacement `k` times over. -/
def Point.scale (k : Int) (p : Point) : Point := ⟨k * p.x, k * p.y⟩

/-- A displacement in su as steps: 1 su is 2 steps (R74). -/
def Point.suToSteps (p : Point) : Point := p.scale 2

/-- The major count of a displacement in steps (R76). -/
def Point.major (p : Point) : Nat := max p.x.natAbs p.y.natAbs

/-- Whether both coordinates are signed 32-bit values (R30). -/
def Point.fits32 (p : Point) : Bool :=
  decide (Config.int32Min ≤ p.x ∧ p.x ≤ Config.int32Max ∧ Config.int32Min ≤ p.y ∧ p.y ≤ Config.int32Max)

/-! ## Descriptors -/

/-- The body of a descriptor that is not EMPTY. -/
def Descriptor.body? : Descriptor → Option DesignBody
  | .empty => none
  | .loading b _ => some b
  | .ready b _ => some b

/-- The length of a READY or LOADING design, 0 for an EMPTY descriptor. -/
def Descriptor.length (d : Descriptor) : Nat :=
  match d.body? with
  | none => 0
  | some b => b.length

/-- The base block of a READY or LOADING design, 0 for an EMPTY descriptor. -/
def Descriptor.base (d : Descriptor) : Nat :=
  match d.body? with
  | none => 0
  | some b => b.base

/-- The descriptor is READY. -/
def Descriptor.isReady : Descriptor → Bool
  | .ready _ _ => true
  | .empty => false
  | .loading _ _ => false

/-- The descriptor is READY and CALLABLE (R62). -/
def Descriptor.isCallable : Descriptor → Bool
  | .ready b _ => b.attrs.callable
  | .empty => false
  | .loading _ _ => false

/-- The blocks of a region: ceil(length / 64) (R11). -/
def regionBlocks (length : Nat) : Nat := (length + 63) / 64

/-- The place in the store, counted in records, of record `i` of a region (R11). -/
def placeOf (base i : Nat) : Nat := (base + i / 64) * 64 + i % 64

/-! ## Path positions (R52) -/

/-- The position [(design, index, 1)]. -/
def Position.main (d : Design) (index : Nat) : Position := ⟨⟨d, index, 1, 1⟩, []⟩

/-- The number of chain frames. -/
def Position.depth (p : Position) : Nat := p.callers.length + 1

/-- The designs of the chain. -/
def Position.designs (p : Position) : List Design := p.inner.design :: p.callers.map (·.design)

/-- Settling (R52): a position on a motif's END goes on at the next repetition's record 0, or after
the CALL in the frame above, which is then tested in the same way. -/
def settlePos (len : Design → Nat) : ChainFrame → List ChainFrame → Position
  | f, [] => ⟨f, []⟩
  | f, c :: up =>
    if f.index + 1 = len f.design then
      if 1 < len f.design ∧ f.rep < f.reps then ⟨{ f with index := 0, rep := f.rep + 1 }, c :: up⟩
      else settlePos len { c with index := c.index + 1 } up
    else ⟨f, c :: up⟩

/-- The position after a record, settled (R52). -/
def Position.next (len : Design → Nat) (p : Position) : Position :=
  settlePos len { p.inner with index := p.inner.index + 1 } p.callers

/-- The position inside a CALL's motif at its record 0, settled (R62, R71). -/
def Position.enter (len : Design → Nat) (p : Position) (motif : Design) (reps : Nat) : Position :=
  settlePos len ⟨motif, 0, 1, reps⟩ (p.inner :: p.callers)

/-- The position of the record before, by the table of R69, before any CALL found is entered. -/
def prevPos (len : Design → Nat) : ChainFrame → List ChainFrame → Option Position
  | f, callers =>
    if 0 < f.index then some ⟨{ f with index := f.index - 1 }, callers⟩
    else
      match callers with
      | [] => none
      | c :: up =>
        if 1 < f.rep then some ⟨{ f with index := len f.design - 2, rep := f.rep - 1 }, c :: up⟩
        else prevPos len c up

/-- The position of the record before `p` (R69). -/
def Position.prev (len : Design → Nat) (p : Position) : Option Position := prevPos len p.inner p.callers

/-- The last record before a motif's END, entered from a CALL walked back into (R69). -/
def Position.enterBack (len : Design → Nat) (p : Position) (motif : Design) (reps : Nat) : Position :=
  ⟨⟨motif, len motif - 2, reps, reps⟩, p.inner :: p.callers⟩

/-- The records the feed may read from a position on: up to the main END, or the one before a
motif's END (R59). -/
def Position.available (len : Design → Nat) (p : Position) : Nat :=
  match p.callers with
  | [] => len p.inner.design - p.inner.index
  | _ :: _ => len p.inner.design - 1 - p.inner.index

/-- A chain frame as a request reports it (R52). -/
def ChainFrame.report (f : ChainFrame) : ReportedFrame := { design := f.design, index := f.index, rep := f.rep }

/-- The frames as a request reports them, outermost first (R52). -/
def Position.report (p : Position) : List ReportedFrame := ((p.inner :: p.callers).map ChainFrame.report).reverse

end Sys2Proof.Machine
end

