-- ==== Sys2Proof/Machine/Operands.lean ====
section
/-! DEFINITION. The operands of the requests: multi-byte values, least significant byte first (R188),
and the numbers that name designs, needles and heads (R17, R112). -/

namespace Sys2Proof.Machine

/-- A 16-bit value from its two bytes. -/
def half (b0 b1 : Byte) : Half := b1 ++ b0

/-- A 32-bit value from its four bytes. -/
def word (b0 b1 b2 b3 : Byte) : Word := b3 ++ b2 ++ b1 ++ b0

/-- The bytes of a 16-bit value. -/
def halfBytes (h : Half) : List Byte := [h.extractLsb' 0 8, h.extractLsb' 8 8]

/-- The bytes of a 32-bit value. -/
def wordBytes (w : Word) : List Byte :=
  [w.extractLsb' 0 8, w.extractLsb' 8 8, w.extractLsb' 16 8, w.extractLsb' 24 8]

/-- The words that a list of bytes holds, four bytes each; none when bytes are left over. -/
def wordsOf : List Byte → Option (List Word)
  | [] => some []
  | b0 :: b1 :: b2 :: b3 :: rest => (wordsOf rest).map (word b0 b1 b2 b3 :: ·)
  | _ => none

/-- A design number, 0..31 (R17). -/
def designOf (b : Byte) : Option Design := if h : b.toNat < 32 then some ⟨b.toNat, h⟩ else none

/-- A needle number, 1..needles_installed (R112). -/
def needleOf (cfg : Configuration) (b : Byte) : Option Needle :=
  if h : 1 ≤ b.toNat ∧ b.toNat ≤ 15 ∧ b.toNat ≤ cfg.needlesInstalled then
    some ⟨b.toNat - 1, by omega⟩
  else none

/-- A head number 1..12, installed or not (R184). -/
def anyHeadOf (b : Byte) : Option Head :=
  if h : 1 ≤ b.toNat ∧ b.toNat ≤ 12 then some ⟨b.toNat - 1, by omega⟩ else none

/-- A head number, 1..heads_installed (R112). -/
def headOf (cfg : Configuration) (b : Byte) : Option Head :=
  if b.toNat ≤ cfg.headsInstalled then anyHeadOf b else none

/-- The attribute byte of LOAD_OPEN: STARTABLE 1, CALLABLE 2, LOCKED 4, at least one of the first
two and no other bit (R12, Table 11-2's note). -/
def attributesOf (b : Byte) : Option Attributes :=
  if b.extractLsb' 3 5 = 0 ∧ b.extractLsb' 0 2 ≠ 0 then
    some { startable := b.getLsbD 0, callable := b.getLsbD 1, locked := b.getLsbD 2 }
  else none

/-- The state byte of SPOOL: READY 0, EMPTY 1 (Table 11-2's note). -/
def spoolStateOf (b : Byte) : Option NeedleState :=
  match b.toNat with
  | 0 => some .ready
  | 1 => some .empty
  | _ => none

/-- The key that ACK_CONDITION names (R176, R184). -/
def keyOf (kind head : Byte) : Option Key :=
  match kind.toNat with
  | 1 => if head = 0 then some .shaftStall else none
  | 2 => if head = 0 then some .carriageFault else none
  | 3 => if head = 0 then some .frameLimit else none
  | 4 => if head = 0 then some .recordFault else none
  | 5 => if head = 0 then some .needleUnmatched else none
  | 6 => (anyHeadOf head).map .threadBreak
  | 7 => (anyHeadOf head).map .threadLoose
  | 8 => (anyHeadOf head).map .bobbinLow
  | _ => none

/-- A value clamped into a range (R103, R114). -/
def clamp (lo hi v : Nat) : Nat := min hi (max lo v)

/-- A speed clamped into speed_min..speed_max. -/
def Configuration.clampSpeed (cfg : Configuration) (v : Nat) : Nat := clamp cfg.speedMin cfg.speedMax v

/-! ## The configuration record (Table 11-4) -/

/-- The size of each field in bytes, and whether it is signed, in index order. -/
def fieldShapes : List (Nat × Bool) :=
  [(1, false), (1, false), (2, false), (2, false), (1, false), (2, false), (2, false), (2, false),
   (2, false), (2, false), (2, false), (2, false), (2, true), (2, true), (2, true), (2, true),
   (2, true), (2, true), (1, false), (2, false), (2, false), (1, false), (1, false), (2, false),
   (2, false), (1, false), (1, false), (2, false), (1, false), (1, false), (1, false), (1, false)]

/-- The field values of a record's bytes; none unless the bytes are exactly the fields' (52). -/
def fieldValues : List (Nat × Bool) → List Byte → Option (List Int)
  | [], [] => some []
  | (1, _) :: shapes, b :: rest => (fieldValues shapes rest).map ((b.toNat : Int) :: ·)
  | (2, signed) :: shapes, b0 :: b1 :: rest =>
    (fieldValues shapes rest).map ((if signed then (half b0 b1).toInt else ((half b0 b1).toNat : Int)) :: ·)
  | _, _ => none

/-- The window length L = (Wc − Wo) mod 1024 (R91). -/
def windowLength (wo wc : Nat) : Nat := (wc + 1024 - wo) % 1024

/-- The range of each field of Table 11-4, in index order, with the tests of two fields at the
higher index (R198). -/
def fieldChecks (v : List Int) : List Bool :=
  let f : Nat → Int := fun i => v.getD i 0
  let within : Nat → Int → Int → Bool := fun i lo hi => decide (lo ≤ f i ∧ f i ≤ hi)
  let len : Nat := windowLength (f 2).toNat (f 3).toNat
  [within 0 1 12, within 1 1 15, within 2 0 1023,
   within 3 0 1023 && decide (f 3 < f 2) && decide (128 ≤ len ∧ len ≤ 768),
   within 4 4 64, within 5 300 1500, within 6 60 300 && decide (f 6 < f 5), within 7 (f 6) (f 5),
   within 8 10 400, within 9 10 400, within 10 1000 20000, within 11 20 1000,
   within 12 (-32768) 32767, within 13 (f 12 + 1) 32767, within 14 (-32768) 32767, within 15 (f 14 + 1) 32767,
   within 16 (f 12) (f 13), within 17 (f 14) (f 15), within 18 0 7, within 19 50 2000, within 20 0 500,
   within 21 0 63, within 22 1 63, within 23 16 1023, within 24 16 1023, within 25 8 255, within 26 0 15,
   within 27 1000 65535, within 28 50 95, within 29 0 1, within 30 0 1, within 31 0 2]

/-- The index of the first failing check (R198). -/
def firstBadField (v : List Int) : Option Nat := (fieldChecks v).findIdx? (!·)

/-- The configuration of a list of 32 field values. -/
def configurationOf (v : List Int) : Configuration :=
  let f : Nat → Int := fun i => v.getD i 0
  let n : Nat → Nat := fun i => (v.getD i 0).toNat
  { headsInstalled := n 0, needlesInstalled := n 1, windowOpen := n 2, windowClose := n 3,
    tdcBand := n 4, speedMax := n 5, speedMin := n 6, speedTrim := n 7, accelStep := n 8,
    decelStep := n 9, rampAllowance := n 10, stepPeriod := n 11, fieldXlo := f 12, fieldXhi := f 13,
    fieldYlo := f 14, fieldYhi := f 15, homeX := f 16, homeY := f 17, stallSelect := n 18,
    carriageStepTimeout := n 19, carriageSettle := n 20, loopAllowance := n 21, pulseLength := n 22,
    breakThreshold := n 23, looseThreshold := n 24, looseQuiet := n 25, mendLead := n 26,
    bobbinCapacity := n 27, bobbinWarnPercent := n 28,
    breakPolicy := if f 29 = 1 then .runOn else .stop,
    autoResume := decide (f 30 = 1),
    arbiterMode := if f 31 = 0 then .feedFirst else if f 31 = 1 then .loaderFirst else .rotate }

/-- The field values of a configuration, in index order. -/
def Configuration.values (c : Configuration) : List Int :=
  [c.headsInstalled, c.needlesInstalled, c.windowOpen, c.windowClose, c.tdcBand, c.speedMax, c.speedMin,
   c.speedTrim, c.accelStep, c.decelStep, c.rampAllowance, c.stepPeriod, c.fieldXlo, c.fieldXhi,
   c.fieldYlo, c.fieldYhi, c.homeX, c.homeY, c.stallSelect, c.carriageStepTimeout, c.carriageSettle,
   c.loopAllowance, c.pulseLength, c.breakThreshold, c.looseThreshold, c.looseQuiet, c.mendLead,
   c.bobbinCapacity, c.bobbinWarnPercent,
   (match c.breakPolicy with | .stop => 0 | .runOn => 1),
   (if c.autoResume then 1 else 0),
   (match c.arbiterMode with | .feedFirst => 0 | .loaderFirst => 1 | .rotate => 2)]

/-- The bytes of field values in Table 11-4's layout. -/
def fieldBytes : List (Nat × Bool) → List Int → List Byte
  | (1, _) :: shapes, v :: vs => BitVec.ofInt 8 v :: fieldBytes shapes vs
  | (2, _) :: shapes, v :: vs => halfBytes (BitVec.ofInt 16 v) ++ fieldBytes shapes vs
  | _, _ => []

/-- The 52 bytes of a configuration record (R200). -/
def Configuration.bytes (c : Configuration) : List Byte := fieldBytes fieldShapes c.values

/-- Every field lies in its range of Table 11-4. -/
def Configuration.inRange (c : Configuration) : Bool := (fieldChecks c.values).all (·)

end Sys2Proof.Machine
end

