-- ==== Sys2Proof/Machine/Flags.lean ====
section
/-! DEFINITION. The values the 1215 computes from its state and does not hold: the attention line, the
TDC test, the position of a move in flight, the carriage position, the enabled heads, an open cause,
and the severity and code of a condition kind. -/

namespace Sys2Proof.Machine

/-! ## Designs and the run -/

/-- The length of design `d`'s region, 0 when EMPTY. -/
def State.len (s : State) (d : Design) : Nat := (s.designs.get d).length

/-- A run exists (R154). -/
def State.runExists (s : State) : Bool := decide (s.run.state ≠ .idle)

/-- The design is in the visited set (R16). -/
def State.visits (s : State) (d : Design) : Bool := s.run.visited.contains d

/-- The in-use flag: a READY descriptor in the visited set (R16, R20). -/
def State.inUse (s : State) (d : Design) : Bool := (s.designs.get d).isReady && s.visits d

/-- The run is sewing: RUNNING or STOPPING. -/
def State.sewing (s : State) : Bool := decide (s.run.state = .running ∨ s.run.state = .stopping)

/-! ## The shaft -/

/-- The count lies within ±tdc_band of 0 (R92). -/
def inBand (cfg : Configuration) (angle : BitVec 10) : Bool :=
  decide (1024 ≤ angle.toNat + cfg.tdcBand ∨ angle.toNat ≤ cfg.tdcBand)

/-- The shaft is at TDC: at rest within the band, and no record pending completion (R92, R107). -/
def State.atTdc (s : State) : Bool :=
  s.shaft.atRest && inBand s.config s.shaft.angle && !s.shaft.pendingFlag

/-- The stall supervision timer runs while the speed command is above 0 (R109). -/
def State.supervised (s : State) : Bool := decide (0 < s.shaft.command)

/-- The stall period in ms: 16 · 2^k (R109). -/
def Configuration.stallPeriod (cfg : Configuration) : Nat := 16 * 2 ^ cfg.stallSelect

/-! ## The frame -/

/-- The target of a move (R76). -/
def Move.target (m : Move) : Point := m.start.add m.disp

/-- The minor count of a displacement (R76). -/
def Point.minor (p : Point) : Nat := min p.x.natAbs p.y.natAbs

/-- The major pulse with which minor pulse `k` is issued: ceil(k · m / mn) (R76). -/
def minorPulseAt (m mn k : Nat) : Nat := (k * m + mn - 1) / mn

/-- The minor pulses issued once `j` major pulses are: those `k` with `minorPulseAt m mn k ≤ j`. -/
def minorIssued (m mn j : Nat) : Nat := j * mn / m

/-- The displacement of the pulses issued so far (R76): the larger count is the major axis's, x when
the counts are equal. -/
def Move.issuedDisp (m : Move) : Point :=
  let minor := minorIssued m.disp.major m.disp.minor m.issued
  if m.disp.y.natAbs ≤ m.disp.x.natAbs then
    ⟨m.disp.x.sign * m.issued, m.disp.y.sign * minor⟩
  else ⟨m.disp.x.sign * minor, m.disp.y.sign * m.issued⟩

/-- The frame position while a move is in flight: it counts the pulses issued so far (R74, R88). -/
def Move.position (m : Move) : Point := m.start.add m.issuedDisp

/-- The frame position, present while KNOWN or MOVING (R74). -/
def FrameState.position? : FrameState → Option Point
  | .unknown => none
  | .homing _ _ => none
  | .known p => some p
  | .moving m => some m.position

/-- A move is in flight. -/
def FrameState.isMoving : FrameState → Bool
  | .moving _ => true
  | .unknown => false
  | .homing _ _ => false
  | .known _ => false

/-- The frame is HOMING. -/
def FrameState.isHoming : FrameState → Bool
  | .homing _ _ => true
  | .unknown => false
  | .known _ => false
  | .moving _ => false

/-- The frame is KNOWN. -/
def FrameState.isKnown : FrameState → Bool
  | .known _ => true
  | .unknown => false
  | .homing _ _ => false
  | .moving _ => false

/-- A sewing move or a follow-on move is in flight (R85). -/
def FrameUnit.sewingInFlight (f : FrameUnit) : Bool :=
  match f.state with
  | .moving m => decide (m.kind = .sewing) || f.followOn.isSome
  | .unknown => f.followOn.isSome
  | .homing _ _ => f.followOn.isSome
  | .known _ => f.followOn.isSome

/-- The position lies within the field in x (R74). -/
def Configuration.inX (cfg : Configuration) (x : Int) : Bool :=
  decide (2 * cfg.fieldXlo ≤ x ∧ x ≤ 2 * cfg.fieldXhi)

/-- The position lies within the field in y (R74). -/
def Configuration.inY (cfg : Configuration) (y : Int) : Bool :=
  decide (2 * cfg.fieldYlo ≤ y ∧ y ≤ 2 * cfg.fieldYhi)

/-- The position lies within the field (R74). -/
def Configuration.inField (cfg : Configuration) (p : Point) : Bool := cfg.inX p.x && cfg.inY p.y

/-- The move time in µs of a major count (R77). -/
def Configuration.moveTime (cfg : Configuration) (m : Nat) : Nat :=
  if m = 0 then 0 else cfg.rampAllowance + m * cfg.stepPeriod

/-- The speed limit N_max of a move time (R78). -/
def Configuration.nMax (cfg : Configuration) (t : Nat) : Nat :=
  if t = 0 then cfg.speedMax
  else windowLength cfg.windowOpen cfg.windowClose * 3750000 / (64 * t)

/-- The travel limit of an axis in steps: S + floor(S / 10), S the field's span (R80). -/
def travelLimit (lo hi : Int) : Nat := (2 * (hi - lo)).toNat + (2 * (hi - lo)).toNat / 10

/-- The homing allowance in µs of an axis: the T of R77 for its travel limit (R77, R80, log 42). -/
def Configuration.homingTime (cfg : Configuration) (lo hi : Int) : Nat := cfg.moveTime (travelLimit lo hi)

/-! ## The carriage -/

/-- The needle number of a position. -/
def needleNumber (n : Needle) : Nat := n.val + 1

/-- The needle a carriage code names; none for 0, between two positions (R120). -/
def needleAt (code : Fin 16) : Option Needle :=
  if h : code.val = 0 then none else some ⟨code.val - 1, by omega⟩

/-- The needle position is installed (R118). -/
def Configuration.installed (cfg : Configuration) (n : Needle) : Bool :=
  decide (needleNumber n ≤ cfg.needlesInstalled)

/-- The carriage code's needle when it lies in 1..needles_installed (R132). -/
def State.codeNeedle (s : State) : Option Needle :=
  (needleAt s.carriage.code).filter s.config.installed

/-- The carriage position, when valid: code in 1..needles_installed, carriage IDLE (R120). -/
def State.carriagePosition (s : State) : Option Needle :=
  if s.carriage.state = .idle then s.codeNeedle else none

/-- The carriage drive outputs, up and down (R121). -/
def State.carriageDrive (s : State) : Bool × Bool :=
  match s.carriage.state with
  | .stepping _ _ => (decide (s.carriage.dir = some .up), decide (s.carriage.dir = some .down))
  | .idle => (false, false)
  | .settling _ => (false, false)

/-! ## The heads -/

/-- Head `h`'s number. -/
def headNumber (h : Head) : Nat := h.val + 1

/-- Heads 1 to 12 in ascending order. -/
def allHeads : List Head := [0, 1, 2, 3, 4, 5, 6, 7, 8, 9, 10, 11]

/-- Needles 1 to 15 in ascending order. -/
def allNeedles : List Needle := [0, 1, 2, 3, 4, 5, 6, 7, 8, 9, 10, 11, 12, 13, 14]

/-- The enable bits of the heads installed. -/
def Configuration.headMask (cfg : Configuration) : Half := BitVec.ofNat 16 (2 ^ cfg.headsInstalled - 1)

/-- The head is enabled: its bit is set and it is installed (R133). -/
def State.enabled (s : State) (h : Head) : Bool :=
  s.enable.getLsbD h.val && decide (headNumber h ≤ s.config.headsInstalled)

/-- At least one head is enabled (R157). -/
def State.anyEnabled (s : State) : Bool := allHeads.any s.enabled

/-- The head is SEWING or WAITING (R144). -/
def HeadState.isSound : HeadState → Bool
  | .sewing => true
  | .waiting _ => true
  | .off => false
  | .idle => false
  | .broken _ => false

/-- The head is BROKEN. -/
def HeadState.isBroken : HeadState → Bool
  | .broken _ => true
  | .off => false
  | .idle => false
  | .sewing => false
  | .waiting _ => false

/-- Some head is SEWING or WAITING (R144). -/
def State.anySound (s : State) : Bool := allHeads.any fun h => (s.heads.get h).state.isSound

/-- Some head is BROKEN (R145). -/
def State.anyBroken (s : State) : Bool := allHeads.any fun h => (s.heads.get h).state.isBroken

/-- Head `h`'s state at needle `n` (R113). -/
def State.needleState (s : State) (n : Needle) (h : Head) : NeedleState := (s.needles.get n).perHead.get h

/-- Head `h` is READY at the current needle. -/
def State.readyNow (s : State) (h : Head) : Bool :=
  match s.run.needle with
  | none => false
  | some n => decide (s.needleState n h = .ready)

/-- Some needle state of head `h` is BROKEN (R151). Every position counts, also one above needles_installed: the
model's choice between R151's 'any' and R117, by which no request reads such an entry (log 43). -/
def State.anyNeedleBroken (s : State) (h : Head) : Bool :=
  allNeedles.any fun n => decide (s.needleState n h = .broken)

/-- The bobbin capacity in su (R141). -/
def Configuration.bobbinSu (cfg : Configuration) : Nat := cfg.bobbinCapacity * 100

/-- The bobbin warning level in su (R141). -/
def Configuration.bobbinWarn (cfg : Configuration) : Nat := cfg.bobbinSu * cfg.bobbinWarnPercent / 100

/-- An ordinal, saturated at its end (R133). -/
def satOrdinal (n : Nat) : Nat := min n Config.ordinalMax

/-! ## Conditions -/

/-- The kind code of a key (R176). -/
def Key.code : Key → Nat
  | .shaftStall => 1
  | .carriageFault => 2
  | .frameLimit => 3
  | .recordFault => 4
  | .needleUnmatched => 5
  | .threadBreak _ => 6
  | .threadLoose _ => 7
  | .bobbinLow _ => 8

/-- The head number of a key, 0 for a machine-wide kind (R176). -/
def Key.headNumber : Key → Nat
  | .shaftStall => 0
  | .carriageFault => 0
  | .frameLimit => 0
  | .recordFault => 0
  | .needleUnmatched => 0
  | .threadBreak h => Machine.headNumber h
  | .threadLoose h => Machine.headNumber h
  | .bobbinLow h => Machine.headNumber h

/-- The severity of a key's kind, 1 the most severe (R176). -/
def Key.severity : Key → Nat
  | .shaftStall => 1
  | .carriageFault => 1
  | .frameLimit => 2
  | .recordFault => 2
  | .needleUnmatched => 2
  | .threadBreak _ => 3
  | .threadLoose _ => 4
  | .bobbinLow _ => 4

/-- The entry is unacknowledged: OPEN or CLEARED (section 10.2). -/
def Condition.unacked (c : Condition) : Bool := decide (c.state ≠ .held)

/-- The entry's cause is open: OPEN or HELD (section 10.2). -/
def Condition.causeOpen (c : Condition) : Bool := decide (c.state ≠ .cleared)

/-- The cause of a key is open. -/
def State.causeOpen (s : State) (k : Key) : Bool :=
  s.conditions.any fun c => decide (c.key = k) && c.causeOpen

/-- The attention line (R186). -/
def State.attention (s : State) : Bool := s.conditions.any Condition.unacked || s.link.runChange

/-! ## The claims (R42) -/

/-- The buffer that the loader's next burst is taken from: the older HOLDING one (R28). -/
def LoadContext.older (c : LoadContext) : Option Staging :=
  if c.olderIs1 then c.buffer1.or c.buffer0 else c.buffer0.or c.buffer1

/-- A burst of the claimant is in flight for work that has not ended. -/
def State.inFlight (s : State) (c : Claimant) : Bool :=
  match s.burst with
  | none => false
  | some b => decide (b.claimant = c) && !b.stale

/-- The claim is waiting (R42, R59, R68). -/
def State.claims (s : State) (c : Claimant) : Bool :=
  !s.inFlight c &&
    match c with
    | .loader => (s.load.bind LoadContext.older).isSome
    | .readback =>
      match s.link.readBack with
      | none => false
      | some r => decide (r.got.length < r.count)
    | .feed =>
      match s.feed.activity with
      | .filling => !s.feed.blocked && decide (s.queue.length ≤ Config.feedLevel)
      | .walking => (s.walk.bind (·.want)).isSome
      | .idle => false
      | .finished => false

/-- The feed's claim is urgent (R44). -/
def State.urgent (s : State) : Bool := s.runExists && decide (s.queue.length < 4)

/-- The claimant that the mode chooses when the urgent feed does not win (R45). -/
def State.modeWinner (s : State) : Option Claimant :=
  match s.config.arbiterMode with
  | .feedFirst => [Claimant.feed, .loader, .readback].find? s.claims
  | .loaderFirst => [Claimant.loader, .feed, .readback].find? s.claims
  | .rotate =>
    match s.lastGranted with
    | .feed => [Claimant.loader, .readback, .feed].find? s.claims
    | .loader => [Claimant.readback, .feed, .loader].find? s.claims
    | .readback => [Claimant.feed, .loader, .readback].find? s.claims

/-- The winner of a grant decision (R44, R45). -/
def State.winner (s : State) : Option Claimant :=
  if s.claims .feed && s.urgent then some .feed else s.modeWinner

/-! ## The queue -/

/-- A stop entry (R99). -/
def Entry.isStop (e : Entry) : Bool :=
  match e.kind with
  | .stitch _ _ => e.limit || e.stationary
  | .jump _ _ => e.limit || e.stationary
  | .trim => e.limit || e.stationary
  | .colour _ => true
  | .pause => true
  | .endMain => true
  | .fault _ => true

/-- A movement entry (R2, R55). -/
def Entry.isMovement (e : Entry) : Bool :=
  match e.kind with
  | .stitch _ _ => true
  | .jump _ _ => true
  | .trim => false
  | .colour _ => false
  | .pause => false
  | .endMain => false
  | .fault _ => false

/-- The displacement of an entry's move in steps (R84). -/
def Entry.disp (e : Entry) : Point :=
  match e.kind with
  | .stitch dx dy => ⟨2 * dx, 2 * dy⟩
  | .jump dx dy => ⟨2 * dx, 2 * dy⟩
  | .trim => ⟨0, 0⟩
  | .colour _ => ⟨0, 0⟩
  | .pause => ⟨0, 0⟩
  | .endMain => ⟨0, 0⟩
  | .fault _ => ⟨0, 0⟩

/-- The kind of revolution an entry takes (R93). -/
def Entry.revKind (e : Entry) : RevKind :=
  match e.kind with
  | .stitch dx dy => .stitch dx dy
  | .jump _ _ => .jump
  | .trim => .trim
  | .colour _ => .jump
  | .pause => .jump
  | .endMain => .jump
  | .fault _ => .jump

/-- Heads penetrate in a STITCH and a TRIM (R135). -/
def RevKind.penetrates : RevKind → Bool
  | .stitch _ _ => true
  | .trim => true
  | .jump => false

end Sys2Proof.Machine
end

