-- ==== Sys2Proof/Machine/Ops.lean ====
section
/-! DEFINITION. The operations that several blocks share: the bytes of the stitch store, the arbiter's
grant, the condition table, the reply to a request, the receiving and taking of frames, and the request
for a controlled stop. -/

namespace Sys2Proof.Machine

/-! ## The bytes of the stitch store (R40) -/

/-- What an unlisted byte of the store reads as (log 7). -/
def Memory.unlisted : Byte := 0

/-- One byte of the store. -/
def Memory.read : List Host.Cell → Nat → Byte
  | [], _ => Memory.unlisted
  | (a, v) :: m, k => if a = k then v else Memory.read m k

/-- One byte written, in canonical form. -/
def Memory.write : List Host.Cell → Nat → Byte → List Host.Cell
  | [], k, v => if v = Memory.unlisted then [] else [(k, v)]
  | (a, w) :: m, k, v =>
    if k < a then (if v = Memory.unlisted then (a, w) :: m else (k, v) :: (a, w) :: m)
    else if k = a then (if v = Memory.unlisted then m else (k, v) :: m)
    else (a, w) :: Memory.write m k v

/-- Addresses strictly rise from `lo` on, and no entry equals what an unlisted address reads as. -/
def Memory.wfFrom : Nat → List Host.Cell → Bool
  | _, [] => true
  | lo, (a, v) :: m => decide (lo ≤ a) && decide (v ≠ Memory.unlisted) && Memory.wfFrom (a + 1) m

/-- The canonical form of the store. -/
def Memory.wf (m : List Host.Cell) : Bool := Memory.wfFrom 0 m

/-- The bytes written at consecutive addresses from `k` on. -/
def Memory.writeBytes : List Host.Cell → Nat → List Byte → List Host.Cell
  | m, _, [] => m
  | m, k, v :: vs => Memory.writeBytes (Memory.write m k v) (k + 1) vs

/-- The record at a place of the store, counted in records; four bytes, the least significant first
(log 7). -/
def readPlace (m : List Host.Cell) (place : Nat) : Word :=
  word (Memory.read m (4 * place)) (Memory.read m (4 * place + 1))
    (Memory.read m (4 * place + 2)) (Memory.read m (4 * place + 3))

/-- A record written at a place of the store. -/
def writePlace (m : List Host.Cell) (place : Nat) (w : Word) : List Host.Cell :=
  Memory.writeBytes m (4 * place) (wordBytes w)

/-- The `count` records of a region from index `first` on (R41). -/
def readRegion (m : List Host.Cell) (base first : Nat) : Nat → List Word
  | 0 => []
  | count + 1 => readPlace m (placeOf base first) :: readRegion m base (first + 1) count

/-- Records written to a region from index `first` on (R28, R41). -/
def writeRegion : List Host.Cell → Nat → Nat → List Word → List Host.Cell
  | m, _, _, [] => m
  | m, base, first, w :: ws => writeRegion (writePlace m (placeOf base first) w) base (first + 1) ws

/-- The places of `count` records from index `first` on all lie in the store (R40). -/
def regionInside (base first count : Nat) : Bool :=
  decide (count = 0 ∨ placeOf base (first + count - 1) < Config.storeRecords)

/-- The bytes of a place whose writing was abandoned, each a free value (R39, R49, log 8). -/
def scramblePlaces : List Host.Cell → Nat → Nat → Nat → Nat → List Host.Cell
  | m, _, _, _, 0 => m
  | m, free, base, first, count + 1 =>
    scramblePlaces
      (Memory.writeBytes m (4 * placeOf base first)
        [Config.freeByte free, Config.freeByte (free + 1), Config.freeByte (free + 2), Config.freeByte (free + 3)])
      (free + 4) base (first + 1) count

/-! ## The arbiter's grant (R41, R43) -/

/-- The burst that a granted claim begins (R28, R38, R59, R68). -/
def State.burstFor (s : State) : Claimant → Option Burst
  | .loader =>
    match s.load with
    | none => none
    | some c =>
      match c.older with
      | none => none
      | some b =>
        let ws := (b.records.drop b.written).take Config.burstMax
        some { claimant := .loader, base := (s.designs.get c.design).base, first := b.first + b.written,
               count := ws.length, records := ws, stale := false }
  | .readback =>
    match s.link.readBack with
    | none => none
    | some r =>
      some { claimant := .readback, base := (s.designs.get r.design).base, first := r.index + r.got.length,
             count := min Config.burstMax (r.count - r.got.length), records := [], stale := false }
  | .feed =>
    match s.feed.activity with
    | .filling =>
      let p := s.feed.fetch
      some { claimant := .feed, base := (s.designs.get p.inner.design).base, first := p.inner.index,
             count := min Config.burstMax (p.available s.len), records := [], stale := false }
    | .walking =>
      match s.walk with
      | none => none
      | some w =>
        match w.want with
        | none => none
        | some p =>
          match w.dir with
          | .forward =>
            some { claimant := .feed, base := (s.designs.get p.inner.design).base, first := p.inner.index,
                   count := min Config.burstMax (p.available s.len), records := [], stale := false }
          | .backward =>
            let first := p.inner.index - (Config.burstMax - 1)
            some { claimant := .feed, base := (s.designs.get p.inner.design).base, first := first,
                   count := p.inner.index + 1 - first, records := [], stale := false }
    | .idle => none
    | .finished => none

/-- The grant decision, made when the store is free and a claim is waiting (R43). -/
def State.arbitrate (s : State) : State :=
  match s.burst with
  | some _ => s
  | none =>
    match s.winner with
    | none => s
    | some c =>
      match s.burstFor c with
      | none => s
      | some b => { s with burst := some b, lastGranted := c }

/-- The feed becomes IDLE: its blocked flag clears, and a burst of its in flight is discarded at its
completion (R58, R48). -/
def State.feedIdle (s : State) : State :=
  { s with
    feed := { s.feed with activity := .idle, blocked := false }
    burst := s.burst.map fun b => if b.claimant = .feed then { b with stale := true } else b }

/-! ## The condition table (chapter 10) -/

/-- A cause opened (R179, R180): a recurrence of its entry, or a new entry at the tail. -/
def openIn (key : Key) (needle : Option Needle) (detail : Detail) (ordinal : Nat)
    (position : Option Position) : List Condition → List Condition
  | [] =>
    [{ key := key, state := .opened, repeats := 0, needle := needle, detail := detail,
       ordinal := ordinal, position := position }]
  | c :: cs =>
    if c.key = key then
      { c with state := .opened, repeats := min 255 (c.repeats + 1), needle := needle, detail := detail,
               ordinal := ordinal, position := position } :: cs
    else c :: openIn key needle detail ordinal position cs

/-- A cause cleared (R181): an OPEN entry becomes CLEARED, a HELD one is removed. -/
def clearIn (key : Key) : List Condition → List Condition
  | [] => []
  | c :: cs =>
    if c.key = key then
      match c.state with
      | .opened => { c with state := .cleared } :: cs
      | .held => cs
      | .cleared => c :: cs
    else c :: clearIn key cs

/-- An entry acknowledged (R182): OPEN becomes HELD, a CLEARED entry is removed. -/
def ackIn (key : Key) : List Condition → List Condition
  | [] => []
  | c :: cs =>
    if c.key = key then
      match c.state with
      | .opened => { c with state := .held } :: cs
      | .held => c :: cs
      | .cleared => cs
    else c :: ackIn key cs

/-- The entry of a key, if the table holds one. -/
def State.condition? (s : State) (k : Key) : Option Condition := s.conditions.find? fun c => decide (c.key = k)

/-- The change count rises by 1 modulo 65,536 (R178). -/
def countChange (n : Nat) : Nat := (n + 1) % 65536

/-- A block opens a cause; the detection ordinal is P (R177 to R180). -/
def State.openCause (key : Key) (needle : Option Needle) (detail : Detail) (position : Option Position)
    (s : State) : State :=
  { s with
    conditions := openIn key needle detail s.run.ordinal position s.conditions
    changes := countChange s.changes }

/-- A block clears a cause; nothing happens when it is not open (R181). -/
def State.clearCause (key : Key) (s : State) : State :=
  if s.causeOpen key then { s with conditions := clearIn key s.conditions, changes := countChange s.changes }
  else s

/-- The entry of a key is acknowledged; only a change of the table counts (R178, R182). -/
def State.acknowledge (key : Key) (s : State) : State :=
  match s.condition? key with
  | none => s
  | some c =>
    if c.unacked then { s with conditions := ackIn key s.conditions, changes := countChange s.changes } else s

/-! ## Replies (R188, R189, R193) -/

/-- The code of a reply status (Table 11-3). -/
def Status.code : Status → Byte
  | .ok => 0x00
  | .unknownCommand => 0x01
  | .badArgument => 0x02
  | .wrongState => 0x03
  | .badFrame => 0x04
  | .overrun => 0x05
  | .haltActive => 0x10
  | .notHomed => 0x11
  | .notAtTdc => 0x12
  | .carriageLost => 0x13
  | .noHeads => 0x14
  | .field => 0x15
  | .notFound => 0x20
  | .badType => 0x21
  | .inUse => 0x22
  | .locked => 0x23
  | .overlap => 0x24
  | .loadActive => 0x30
  | .noLoad => 0x31
  | .sequence => 0x32
  | .pending => 0x33
  | .loadMismatch => 0x34
  | .bobbinSpent => 0x40

/-- The attribute byte. Table 11-2's note gives it for the argument of LOAD_OPEN alone; that the replies of LOCK and
UNLOCK carry the same byte is the model's choice (log 5). -/
def Attributes.toByte (a : Attributes) : Byte :=
  (if a.startable then 1 else 0) + (if a.callable then 2 else 0) + (if a.locked then 4 else 0)

/-- The needle state byte. Table 11-2's note gives it for the argument of SPOOL alone; that SPOOL's reply carries the
same byte is the model's choice (log 5). -/
def NeedleState.toByte : NeedleState → Byte
  | .ready => 0
  | .empty => 1
  | .broken => 2

/-- The bytes a payload has where the manual gives their layout; none where it gives the items alone. The
manual sizes no count and no index of a reply: a cursor or a record index has 4 bytes here, READ_RECORDS' count
and CONFIGURE's field index 1 byte (log 5). Nor does it encode the attribute set that LOCK and UNLOCK answer with, or
the needle state of SPOOL's reply: each is 1 byte here, the one that the request's argument has (log 5). -/
def Payload.stated : Payload → Option (List Byte)
  | .empty => some []
  | .index i => some (wordBytes (BitVec.ofNat 32 i))
  | .fieldIndex i => some [BitVec.ofNat 8 i]
  | .mismatch cursor sum => some (wordBytes (BitVec.ofNat 32 cursor) ++ halfBytes sum)
  | .records i n words => some (wordBytes (BitVec.ofNat 32 i) ++ [BitVec.ofNat 8 n] ++ words.flatMap wordBytes)
  | .attributes a => some [a.toByte]
  | .speed rpm => some (halfBytes (BitVec.ofNat 16 rpm))
  | .needleState st => some [st.toByte]
  | .mask bits => some (halfBytes bits)
  | .config c => some c.bytes
  | .completeness _ => none
  | .design _ _ => none
  | .designs _ => none
  | .headState _ => none
  | .identity _ _ _ _ _ _ => none
  | .status _ => none
  | .heads _ _ => none
  | .needles _ _ => none
  | .nextCondition _ _ => none
  | .conditions _ _ _ => none
  | .acknowledged _ _ => none

/-- The length of a payload whose byte layout the manual does not give (log 5). -/
def Payload.modelLength : Payload → Nat
  | .completeness _ => 1
  | .design d _ =>
    match d with
    | .empty => 1
    | .loading b _ => 36 + 2 * b.colours.length
    | .ready b n => 33 + 2 * b.colours.length + (if n.isSome then 8 else 0)
  | .designs items => 3 * items.length
  | .headState _ => 1
  | .identity _ _ _ _ _ _ => 10
  | .status r => 94 + 6 * (match r.resume with | none => 0 | some fs => min 4 fs.length)
  | .heads _ rs => 2 + 15 * rs.length
  | .needles _ rs => 1 + 10 * rs.length
  | .nextCondition e _ => if e.isSome then 46 else 1
  | .conditions _ _ es => 3 + 45 * es.length
  | .acknowledged _ _ => 2
  | .empty => 0
  | .index _ => 0
  | .fieldIndex _ => 0
  | .mismatch _ _ => 0
  | .records _ _ _ => 0
  | .attributes _ => 0
  | .speed _ => 0
  | .needleState _ => 0
  | .mask _ => 0
  | .config _ => 0

/-- The bytes of a payload: as stated, or free bytes where the manual gives no layout (log 5). -/
def Payload.bytes (p : Payload) : List Byte :=
  match p.stated with
  | some bs => bs
  | none => (List.range p.modelLength).map (Config.layoutByte p)

/-- The number of bytes of a payload. -/
def Payload.size (p : Payload) : Nat :=
  match p.stated with
  | some bs => bs.length
  | none => p.modelLength

/-- The check byte of a frame's length and body bytes (R189). -/
def checkByte (bs : List Byte) : Byte := 0 - bs.foldl (· + ·) 0

/-- A whole frame around a body (R188). -/
def frameOf (body : List Byte) : List Byte :=
  let n : Byte := BitVec.ofNat 8 body.length
  Config.marker :: n :: (body ++ [checkByte (n :: body)])

/-- The bytes of a reply frame (R188). -/
def Reply.bytes (r : Reply) : List Byte := frameOf (r.code :: r.status.code :: r.payload.bytes)

/-- The length of a reply frame. -/
def Reply.size (r : Reply) : Nat := r.payload.size + 5

/-- The bytes that stand in the transmit FIFO (R193). -/
def Link.txBytes (l : Link) : List Byte := (l.tx.flatMap Reply.bytes).drop l.txSent

/-- The number of bytes in the transmit FIFO. -/
def Link.txUsed (l : Link) : Nat := (l.tx.map Reply.size).foldl (· + ·) 0 - l.txSent

/-- A reply is placed whole when it has room, and waits for room otherwise (R193). -/
def Link.place (r : Reply) (l : Link) : Link :=
  if l.txUsed + r.size ≤ Config.fifoBytes then { l with tx := l.tx ++ [r], waiting := none }
  else { l with waiting := some r }

/-- The reply to the request of a command code. -/
def State.reply (code : Byte) (status : Status) (payload : Payload) (s : State) : State :=
  { s with link := s.link.place ⟨code, status, payload⟩ }

/-- A refusal with no payload (R1). -/
def State.refuse (code : Byte) (status : Status) (s : State) : State := s.reply code status .empty

/-- The first of a request's checks that fails decides its refusal; each is (passes, status otherwise). -/
def firstRefusal : List (Bool × Status) → Option Status
  | [] => none
  | (true, _) :: checks => firstRefusal checks
  | (false, status) :: _ => some status

/-- A request whose checks are made in order (R1): the first that fails gives the refusal, and nothing
else changes; when all pass, `act` is done. -/
def State.checked (code : Byte) (checks : List (Bool × Status)) (act : State → State) (s : State) : State :=
  match firstRefusal checks with
  | some status => s.refuse code status
  | none => act s

/-- A request without arguments (R192). -/
def State.noArgument (code : Byte) (p : List Byte) (act : State → State) (s : State) : State :=
  match p with
  | [] => act s
  | _ :: _ => s.refuse code .badArgument

/-- A request whose only argument is a design number (R17). -/
def State.oneDesign (code : Byte) (p : List Byte) (act : Design → State → State) (s : State) : State :=
  match p with
  | [b] =>
    match designOf b with
    | some d => act d s
    | none => s.refuse code .badArgument
  | _ => s.refuse code .badArgument

/-- The transmitter sends one byte (R193). -/
def Link.sendByte (l : Link) : Link :=
  match l.tx with
  | [] => l
  | r :: rest => if r.size ≤ l.txSent + 1 then { l with tx := rest, txSent := 0 } else { l with txSent := l.txSent + 1 }

/-- The transmitter sends `k` bytes. -/
def Link.sendBytes : Nat → Link → Link
  | 0, l => l
  | k + 1, l => Link.sendBytes k l.sendByte

/-! ## Receiving and taking frames (R190 to R192) -/

/-- The bytes that are stored of a list with lost bytes. -/
def storedCount (bs : List (Option Byte)) : Nat := (bs.filter Option.isSome).length

/-- The bytes of the receive FIFO a complete frame occupies (R191). -/
def RxFrame.used (f : RxFrame) : Nat := 1 + storedCount f.body + (if f.check.isSome then 1 else 0)

/-- The bytes of the receive FIFO the frame being assembled occupies (R191). -/
def Assembler.used : Assembler → Nat
  | .hunting => 0
  | .length => 0
  | .body _ got => 1 + storedCount got
  | .check _ got => 1 + storedCount got

/-- The bytes that stand in the receive FIFO. -/
def Link.rxUsed (l : Link) : Nat := (l.rx.map RxFrame.used).foldl (· + ·) l.asm.used

/-- A byte as it is stored: lost when all 256 bytes are occupied (R191). -/
def Link.stored (l : Link) (b : Byte) : Option Byte := if l.rxUsed < Config.fifoBytes then some b else none

/-- The gap timer runs (R190). -/
def Link.gapRunning (l : Link) : Bool := decide (l.asm ≠ .hunting)

/-- A byte arrives on the receive line (R190, R191). -/
def Link.byteArrives (b : Byte) (l : Link) : Link :=
  match l.asm with
  | .hunting => if b = Config.marker then { l with asm := .length } else l
  | .length =>
    if 1 ≤ b.toNat ∧ b.toNat ≤ 200 ∧ l.rxUsed < Config.fifoBytes then { l with asm := .body b.toNat [] }
    else { l with asm := .hunting }
  | .body n got =>
    let got' := got ++ [l.stored b]
    if got'.length < n then { l with asm := .body n got' } else { l with asm := .check n got' }
  | .check n got => { l with asm := .hunting, rx := l.rx ++ [{ length := n, body := got, check := l.stored b }] }

/-- The frame is marked overrun: a byte of its body or its check was lost (R191). -/
def RxFrame.overrun (f : RxFrame) : Bool := f.body.any Option.isNone || f.check.isNone

/-- The body bytes of a frame that is not marked overrun. -/
def RxFrame.bytes (f : RxFrame) : List Byte := f.body.map (·.getD 0)

/-- The sum of length, body and check is 0 modulo 256 (R189). -/
def RxFrame.goodCheck (f : RxFrame) : Bool :=
  decide ((f.bytes ++ [f.check.getD 0]).foldl (· + ·) (BitVec.ofNat 8 f.length) = 0)

/-- The command that the taking of a frame is: the first test of R192 that applies. -/
def RxFrame.command (f : RxFrame) : Instr :=
  if f.overrun then .badFrame (.overrun (f.body.headD none))
  else if f.goodCheck then
    match f.bytes with
    | [] => .badFrame (.badCheck 0)
    | code :: payload => (requestOf code payload).getD (.unknownCommand code payload)
  else .badFrame (.badCheck (f.bytes.headD 0))

/-- The link interface may take the next frame: no reply waits, no READ_RECORDS is in progress, and no
RESET has been taken (R192, R193, R201). -/
def Link.ready (l : Link) : Bool := l.waiting.isNone && l.readBack.isNone && !l.resetting

/-- The frame of a command that the link interface cannot take yet arrives byte by byte and waits in the
receive FIFO (R190, R191, log 1). A flawed frame is only ever assembled from its own bytes. -/
def State.frameArrives (c : Instr) (s : State) : State :=
  match requestBody c with
  | none => s
  | some (code, payload) =>
    { s with link := (frameOf (code :: payload)).foldl (fun l b => l.byteArrives b) s.link }

/-- The link interface takes the frame of command `c` and does `act` for it (R192): at once when no
complete frame waits, out of the receive FIFO when it is the oldest one there. Otherwise the frame
waits behind the older ones (log 1). -/
def State.takeFrame (c : Instr) (act : State → State) (s : State) : State :=
  if s.link.ready then
    match s.link.rx with
    | [] => act s
    | f :: rest =>
      if f.command = c then act { s with link := { s.link with rx := rest } } else s.frameArrives c
  else s.frameArrives c

/-! ## The request for a controlled stop (R104, R125, R156) -/

/-- A block or the host requests a controlled stop. -/
def State.requestStop (reason : StopReason) (s : State) : State :=
  match s.run.state with
  | .running =>
    if s.shaft.stopReq = .none then
      { s with
        shaft := { s.shaft with stopReq := .controlled }
        run := { s.run with state := .stopping, pendingStop := true, reason := reason } }
    else s
  | .stopping =>
    if s.shaft.stopReq = .none then
      { s with
        shaft := { s.shaft with stopReq := .controlled }
        run := { s.run with pendingStop := true, reason := reason } }
    else s
  | .changing =>
    if s.run.pendingStop then s else { s with run := { s.run with pendingStop := true, reason := reason } }
  | .idle => s
  | .stopped => s
  | .backing => s
  | .halted => s

end Sys2Proof.Machine
end

