-- ==== Sys2Proof/Machine/ConditionCommands.lean ====
section
/-! DEFINITION. The requests on the condition table (section 10.3). -/

namespace Sys2Proof.Machine

/-- The entries with their places, counted from 0 (R178). -/
def placed (cs : List Condition) : List (Nat × Condition) := (List.range cs.length).zip cs

/-- An entry's fields as a reply gives them, its position by its frames (R52, R177). -/
def Condition.report (c : Condition) : ConditionReport :=
  { key := c.key, severity := c.key.severity, state := c.state, repeats := c.repeats, needle := c.needle,
    detail := c.detail, ordinal := c.ordinal, position := c.position.map Position.report }

/-- An entry as a reply gives it, with its place (R183, R185). -/
def reported (c : Nat × Condition) : Nat × ConditionReport := (c.1, c.2.report)

/-- The more severe of two entries, the one nearer the head when they are equal (R183). -/
def moreSevere (best : Option (Nat × Condition)) (c : Nat × Condition) : Option (Nat × Condition) :=
  match best with
  | none => some c
  | some b => if c.2.key.severity < b.2.key.severity then some c else some b

/-- The entries not acknowledged, with their places (R183). -/
def unacked (cs : List Condition) : List (Nat × Condition) := (placed cs).filter fun c => c.2.unacked

/-- The unacknowledged entry of highest severity, nearest the head (R183). -/
def nextEntry (cs : List Condition) : Option (Nat × Condition) := (unacked cs).foldl moreSevere none

/-- NEXT_CONDITION (R183). -/
def performNextCondition (p : List Byte) (s : State) : State :=
  s.noArgument 0x50 p fun s =>
    match nextEntry s.conditions with
    | none => s.reply 0x50 .ok (.nextCondition none 0)
    | some c =>
      (s.acknowledge c.2.key).reply 0x50 .ok (.nextCondition (some (reported c)) ((unacked s.conditions).length - 1))

/-- NEXT_CONDITION, 0x50 (R183). -/
def execNextCondition (p : List Byte) (s : State) : Outcome :=
  .next (s.takeFrame (.nextCondition p) (performNextCondition p))

/-- LIST_CONDITIONS (R185). -/
def performListConditions (p : List Byte) (s : State) : State :=
  match p with
  | [first] =>
    if first.toNat ≤ 40 then
      s.reply 0x51 .ok
        (.conditions s.conditions.length s.changes ((((placed s.conditions).drop first.toNat).take 4).map reported))
    else s.refuse 0x51 .badArgument
  | _ => s.refuse 0x51 .badArgument

/-- LIST_CONDITIONS, 0x51 (R185). -/
def execListConditions (p : List Byte) (s : State) : Outcome :=
  .next (s.takeFrame (.listConditions p) (performListConditions p))

/-- ACK_CONDITION for a key in range (R184). -/
def State.ackFor (k : Key) (s : State) : State :=
  match s.condition? k with
  | none => s.refuse 0x52 .notFound
  | some c =>
    let s1 := s.acknowledge k
    s1.reply 0x52 .ok (.acknowledged c.state (s1.condition? k).isSome)

/-- ACK_CONDITION (R184). -/
def performAckCondition (p : List Byte) (s : State) : State :=
  match p with
  | [kind, head] =>
    match keyOf kind head with
    | none => s.refuse 0x52 .badArgument
    | some k => s.ackFor k
  | _ => s.refuse 0x52 .badArgument

/-- ACK_CONDITION, 0x52 (R184). -/
def execAckCondition (p : List Byte) (s : State) : Outcome :=
  .next (s.takeFrame (.ackCondition p) (performAckCondition p))

end Sys2Proof.Machine
end

