-- ==== Sys2Proof/Machine/Loader.lean ====
section
/-! DEFINITION. What the design loader computes over accepted records: the load sum, the extent and the
running position, and the colour list (R29 to R32). -/

namespace Sys2Proof.Machine

/-- The extent of an empty path: the origin (R13, R24). -/
def Box.origin : Box := { xMin := 0, xMax := 0, yMin := 0, yMax := 0 }

/-- A box placed at a position (R31). -/
def Box.place (b : Box) (p : Point) : Box :=
  { xMin := b.xMin + p.x, xMax := b.xMax + p.x, yMin := b.yMin + p.y, yMax := b.yMax + p.y }

/-- The least box that holds two boxes (R30, R31). -/
def Box.union (b c : Box) : Box :=
  { xMin := min b.xMin c.xMin, xMax := max b.xMax c.xMax, yMin := min b.yMin c.yMin, yMax := max b.yMax c.yMax }

/-- The box of one position. -/
def Point.box (p : Point) : Box := { xMin := p.x, xMax := p.x, yMin := p.y, yMax := p.y }

/-- Every bound is a signed 32-bit value (R31). -/
def Box.fits32 (b : Box) : Bool := Point.fits32 ⟨b.xMin, b.yMin⟩ && Point.fits32 ⟨b.xMax, b.yMax⟩

/-- The load sum raised by a record's two halves (R15, R29). -/
def addToSum (sum : Half) (w : Word) : Half := sum + w.extractLsb' 16 16 + w.extractLsb' 0 16

/-- The values that the loader carries from record to record: the descriptor's body, and the running
position, absent when not tracked (R22). -/
structure Tally where
  body : DesignBody
  position : Option Point
  deriving DecidableEq, Repr

/-- Tracking becomes PARTIAL (R30, R31). -/
def Tally.untrack (t : Tally) : Tally := { body := { t.body with complete := false }, position := none }

/-- A movement record (R30). -/
def Tally.move (d : Point) (t : Tally) : Tally :=
  match t.position with
  | none => t
  | some p =>
    let q := p.add d
    if q.fits32 then { body := { t.body with extent := t.body.extent.union q.box }, position := some q } else t.untrack

/-- The extent and net move of a motif that a CALL can be accounted for with (R31). -/
def Descriptor.motif? : Descriptor → Option (Box × Point)
  | .ready b (some n) => if b.complete then some (b.extent, n) else none
  | .ready _ none => none
  | .empty => none
  | .loading _ _ => none

/-- A CALL record of `reps` repetitions (R31). -/
def Tally.call (motif : Descriptor) (reps : Nat) (t : Tally) : Tally :=
  match t.position with
  | none => t
  | some p =>
    match motif.motif? with
    | none => t.untrack
    | some (box, net) =>
      let first := box.place p
      let last := box.place (p.add (net.scale (reps - 1)))
      let q := p.add (net.scale reps)
      if first.fits32 && last.fits32 && q.fits32 then
        { body := { t.body with extent := (t.body.extent.union first).union last }, position := some q }
      else t.untrack

/-- A COLOUR record (R32). -/
def Tally.colour (code : Half) (t : Tally) : Tally :=
  let b := t.body
  if b.colours.length < 32 then
    { t with body := { b with colourCount := b.colourCount + 1, colours := b.colours ++ [code] } }
  else { t with body := { b with colourCount := b.colourCount + 1, truncated := true } }

/-- The record's own contribution besides the sum (R30 to R32). -/
def Tally.record (designs : Table 32 Descriptor) (r : Record) (t : Tally) : Tally :=
  match r with
  | .stitch dx dy => t.move ⟨dx, dy⟩
  | .jump dx dy => t.move ⟨dx, dy⟩
  | .colour code => t.colour code
  | .call motif reps => t.call (designs.get motif) reps
  | .trim => t
  | .pause => t
  | .endRec => t

/-- One accepted record (R29 to R32). -/
def Tally.accept (designs : Table 32 Descriptor) (t : Tally) (w : Word) : Tally :=
  let t1 : Tally := { t with body := { t.body with sum := addToSum t.body.sum w } }
  match decodeRecord w with
  | none => t1
  | some r => t1.record designs r

/-- A chunk, record by record in index order (R29). -/
def Tally.acceptAll (designs : Table 32 Descriptor) (ws : List Word) (t : Tally) : Tally :=
  ws.foldl (Tally.accept designs) t

/-- A staging buffer is FREE (R25, R27). -/
def LoadContext.hasFree (c : LoadContext) : Bool := c.buffer0.isNone || c.buffer1.isNone

/-- A staging buffer is HOLDING (R33). -/
def LoadContext.anyHolding (c : LoadContext) : Bool := c.buffer0.isSome || c.buffer1.isSome

/-- A chunk is copied into a FREE buffer, buffer 0 when both are FREE (R27). -/
def LoadContext.stage (first : Nat) (ws : List Word) (c : LoadContext) : LoadContext :=
  let chunk : Staging := { first := first, records := ws, written := 0 }
  match c.buffer0 with
  | none => { c with buffer0 := some chunk, olderIs1 := c.buffer1.isSome }
  | some _ => { c with buffer1 := some chunk, olderIs1 := false }

/-- A buffer whose written number rises by `count`, FREE once all its records are written (R28). -/
def Staging.credit (count : Nat) (b : Staging) : Option Staging :=
  if b.records.length ≤ b.written + count then none else some { b with written := b.written + count }

/-- A completed loader burst is counted to the older HOLDING buffer (R28, R41). -/
def LoadContext.credit (count : Nat) (c : LoadContext) : LoadContext :=
  match c.buffer0, c.buffer1 with
  | none, none => c
  | some b, none => { c with buffer0 := b.credit count }
  | none, some b => { c with buffer1 := b.credit count }
  | some b0, some b1 =>
    if c.olderIs1 then { c with buffer1 := b1.credit count } else { c with buffer0 := b0.credit count }

/-- A loader burst in flight belongs to a load that has ended (R36, R48). -/
def State.staleLoader (s : State) : State :=
  { s with burst := s.burst.map fun b => if b.claimant = .loader then { b with stale := true } else b }

end Sys2Proof.Machine
end

