-- ==== Sys2Proof/Machine/DesignCommands.lean ====
section
/-! DEFINITION. The requests on the design table, the loader and the store (chapters 1 and 2). -/

namespace Sys2Proof.Machine

/-- Design `d`'s descriptor replaced. -/
def State.setDesign (d : Design) (x : Descriptor) (s : State) : State := { s with designs := s.designs.set d x }

/-! ## LOAD_OPEN (R23, R24) -/

/-- Two runs of blocks have a block in common (R23). -/
def regionsMeet (base blocks base' blocks' : Nat) : Bool :=
  decide (base < base' + blocks' ∧ base' < base + blocks)

/-- The region of a descriptor meets a run of blocks; an EMPTY one has no region (R11, R23). -/
def Descriptor.meets (base blocks : Nat) (x : Descriptor) : Bool :=
  match x.body? with
  | none => false
  | some b => regionsMeet base blocks b.base (regionBlocks b.length)

/-- The checks of LOAD_OPEN behind the design number's (R23). An undefined bit of the attribute byte is found at the
attribute row: the model's choice, since Table 11-2's note gives its refusal no place in the order (log 38). -/
def State.loadOpenChecks (s : State) (d : Design) (base length : Nat) (attrs : Option Attributes) :
    List (Bool × Status) :=
  [(s.load.isNone, .loadActive),
   (decide (base < Config.storeBlocks), .badArgument),
   (decide (1 ≤ length ∧ length ≤ 262144), .badArgument),
   (decide (base + regionBlocks length ≤ Config.storeBlocks), .badArgument),
   (attrs.isSome, .badArgument),
   (decide (s.designs.get d = .empty), .inUse),
   (!s.designs.items.any (Descriptor.meets base (regionBlocks length)), .overlap)]

/-- The body of a descriptor that a load begins (R24). -/
def DesignBody.opened (base length : Nat) (attrs : Attributes) : DesignBody :=
  { attrs := attrs, base := base, length := length, extent := Box.origin, complete := true,
    colourCount := 0, colours := [], truncated := false, sum := 0 }

/-- The load context becomes OPEN (R24). -/
def State.openLoad (d : Design) (base length : Nat) (attrs : Attributes) (s : State) : State :=
  { s.setDesign d (.loading (DesignBody.opened base length attrs) 0) with
    load := some { design := d, position := some ⟨0, 0⟩, buffer0 := none, buffer1 := none, olderIs1 := false } }

/-- LOAD_OPEN for a design number in range (R23, R24). -/
def State.loadOpenFor (d : Design) (base length : Nat) (a : Byte) (s : State) : State :=
  s.checked 0x10 (s.loadOpenChecks d base length (attributesOf a)) fun s =>
    match attributesOf a with
    | none => s
    | some attrs => (s.openLoad d base length attrs).reply 0x10 .ok .empty

/-- LOAD_OPEN (R23). -/
def performLoadOpen (p : List Byte) (s : State) : State :=
  match p with
  | [b, base0, base1, l0, l1, l2, l3, a] =>
    match designOf b with
    | none => s.refuse 0x10 .badArgument
    | some d => s.loadOpenFor d (half base0 base1).toNat (word l0 l1 l2 l3).toNat a
  | _ => s.refuse 0x10 .badArgument

/-- LOAD_OPEN, 0x10 (R23). -/
def execLoadOpen (p : List Byte) (s : State) : Outcome := .next (s.takeFrame (.loadOpen p) (performLoadOpen p))

/-! ## LOAD_DATA (R25 to R32) -/

/-- The open load's context, body and cursor, when it is for design `d` (R25, R33, R35). -/
def State.openFor (s : State) (d : Design) : Option (LoadContext × DesignBody × Nat) :=
  match s.load with
  | none => none
  | some c =>
    if c.design = d then
      match s.designs.get d with
      | .loading b cursor => some (c, b, cursor)
      | .empty => none
      | .ready _ _ => none
    else none

/-- A chunk is accepted (R27 to R32): it is staged, and the loader's values move on. -/
def State.acceptChunk (d : Design) (c : LoadContext) (b : DesignBody) (cursor : Nat) (ws : List Word) (s : State) :
    State :=
  let t := Tally.acceptAll s.designs ws { body := b, position := c.position }
  { s.setDesign d (.loading t.body (cursor + ws.length)) with
    load := some { c.stage cursor ws with position := t.position } }

/-- A chunk of `ws` at `first` for the open load (R25). -/
def State.offerChunk (d : Design) (c : LoadContext) (b : DesignBody) (cursor first : Nat) (ws : List Word)
    (s : State) : State :=
  if ¬(1 ≤ ws.length ∧ ws.length ≤ 32) then s.refuse 0x11 .badArgument
  else if first ≠ cursor then s.reply 0x11 .sequence (.index cursor)
  else if b.length < first + ws.length then s.reply 0x11 .badArgument (.index b.length)
  else
    match firstFailing d b.length first ws with
    | some i => s.reply 0x11 .badArgument (.index i)
    | none =>
      if c.hasFree then
        ((s.acceptChunk d c b cursor ws).reply 0x11 .ok (.index (cursor + ws.length))).arbitrate
      else s.refuse 0x11 .pending

/-- LOAD_DATA for a design number in range (R25). -/
def State.loadDataFor (d : Design) (first : Nat) (ws : List Word) (s : State) : State :=
  match s.openFor d with
  | none => s.refuse 0x11 .noLoad
  | some (c, b, cursor) => s.offerChunk d c b cursor first ws

/-- LOAD_DATA (R25); its payload is 6 + 4 × count bytes, with the count it gives (R192). -/
def performLoadData (p : List Byte) (s : State) : State :=
  match p with
  | b :: i0 :: i1 :: i2 :: i3 :: n :: rest =>
    match wordsOf rest with
    | none => s.refuse 0x11 .badArgument
    | some ws =>
      if ws.length ≠ n.toNat then s.refuse 0x11 .badArgument
      else
        match designOf b with
        | none => s.refuse 0x11 .badArgument
        | some d => s.loadDataFor d (word i0 i1 i2 i3).toNat ws
  | _ => s.refuse 0x11 .badArgument

/-- LOAD_DATA, 0x11 (R25). -/
def execLoadData (p : List Byte) (s : State) : Outcome := .next (s.takeFrame (.loadData p) (performLoadData p))

/-! ## LOAD_CLOSE and LOAD_CANCEL (R33 to R35) -/

/-- The load ends: the descriptor takes its new state, and the context becomes CLOSED. -/
def State.endLoad (d : Design) (x : Descriptor) (s : State) : State :=
  { s.setDesign d x with load := none }.staleLoader

/-- LOAD_CLOSE for the open load (R33, R34). -/
def State.closeLoad (d : Design) (c : LoadContext) (b : DesignBody) (cursor : Nat) (sum : Half) (s : State) : State :=
  if c.anyHolding then s.refuse 0x12 .pending
  else if cursor = b.length ∧ sum = b.sum then
    (s.endLoad d (.ready b (if b.complete then c.position else none))).reply 0x12 .ok (.completeness b.complete)
  else (s.endLoad d .empty).reply 0x12 .loadMismatch (.mismatch cursor b.sum)

/-- LOAD_CLOSE for a design number in range (R33). -/
def State.loadCloseFor (d : Design) (sum : Half) (s : State) : State :=
  match s.openFor d with
  | none => s.refuse 0x12 .noLoad
  | some (c, b, cursor) => s.closeLoad d c b cursor sum

/-- LOAD_CLOSE (R33). -/
def performLoadClose (p : List Byte) (s : State) : State :=
  match p with
  | [b, s0, s1] =>
    match designOf b with
    | none => s.refuse 0x12 .badArgument
    | some d => s.loadCloseFor d (half s0 s1)
  | _ => s.refuse 0x12 .badArgument

/-- LOAD_CLOSE, 0x12 (R33). -/
def execLoadClose (p : List Byte) (s : State) : Outcome := .next (s.takeFrame (.loadClose p) (performLoadClose p))

/-- LOAD_CANCEL for a design number in range (R35). -/
def State.loadCancelFor (d : Design) (s : State) : State :=
  match s.openFor d with
  | none => s.refuse 0x13 .noLoad
  | some _ => (s.endLoad d .empty).reply 0x13 .ok .empty

/-- LOAD_CANCEL (R35). -/
def performLoadCancel (p : List Byte) (s : State) : State := s.oneDesign 0x13 p State.loadCancelFor

/-- LOAD_CANCEL, 0x13 (R35). -/
def execLoadCancel (p : List Byte) (s : State) : Outcome := .next (s.takeFrame (.loadCancel p) (performLoadCancel p))

/-! ## READ_RECORDS (R37) -/

/-- The descriptor is LOADING. -/
def Descriptor.isLoading : Descriptor → Bool
  | .loading _ _ => true
  | .empty => false
  | .ready _ _ => false

/-- The checks that a request makes on a READY descriptor (R18, R19, R37). -/
def State.readyChecks (s : State) (d : Design) : List (Bool × Status) :=
  [(decide (s.designs.get d ≠ .empty), .notFound), (!(s.designs.get d).isLoading, .loadActive)]

/-- READ_RECORDS for a design number in range (R37, R38): the records come by READBACK bursts, and the
reply after the last of them. -/
def State.readRecordsFor (d : Design) (index count : Nat) (s : State) : State :=
  s.checked 0x14
    (s.readyChecks d ++
      [(decide (1 ≤ count ∧ count ≤ 32), .badArgument), (decide (index < s.len d), .badArgument)])
    fun s =>
      let read : ReadBack := { design := d, index := index, count := min count (s.len d - index), got := [] }
      { s with link := { s.link with readBack := some read } }.arbitrate

/-- READ_RECORDS (R37). -/
def performReadRecords (p : List Byte) (s : State) : State :=
  match p with
  | [b, i0, i1, i2, i3, n] =>
    match designOf b with
    | none => s.refuse 0x14 .badArgument
    | some d => s.readRecordsFor d (word i0 i1 i2 i3).toNat n.toNat
  | _ => s.refuse 0x14 .badArgument

/-- READ_RECORDS, 0x14 (R37). -/
def execReadRecords (p : List Byte) (s : State) : Outcome := .next (s.takeFrame (.readRecords p) (performReadRecords p))

/-! ## RETIRE, LOCK, UNLOCK, DESCRIBE, LIST_DESIGNS (R18 to R20) -/

/-- The attribute set of a descriptor, empty for an EMPTY one (R20). -/
def Descriptor.attributes (x : Descriptor) : Attributes :=
  match x.body? with
  | none => { startable := false, callable := false, locked := false }
  | some b => b.attrs

/-- RETIRE for a design number in range (R18). -/
def State.retireFor (d : Design) (s : State) : State :=
  s.checked 0x15
    (s.readyChecks d ++ [(!s.visits d, .inUse), (!(s.designs.get d).attributes.locked, .locked)])
    fun s => (s.setDesign d .empty).reply 0x15 .ok .empty

/-- RETIRE (R18). -/
def performRetire (p : List Byte) (s : State) : State := s.oneDesign 0x15 p State.retireFor

/-- RETIRE, 0x15 (R18). -/
def execRetire (p : List Byte) (s : State) : Outcome := .next (s.takeFrame (.retire p) (performRetire p))

/-- The LOCKED attribute of a READY descriptor set or cleared (R19). -/
def Descriptor.setLocked (v : Bool) (x : Descriptor) : Descriptor :=
  match x with
  | .ready b n => .ready { b with attrs := { b.attrs with locked := v } } n
  | .empty => .empty
  | .loading b c => .loading b c

/-- LOCK or UNLOCK for a design number in range (R19). -/
def State.lockFor (code : Byte) (v : Bool) (d : Design) (s : State) : State :=
  s.checked code (s.readyChecks d) fun s =>
    let x := (s.designs.get d).setLocked v
    (s.setDesign d x).reply code .ok (.attributes x.attributes)

/-- LOCK (R19). -/
def performLock (p : List Byte) (s : State) : State := s.oneDesign 0x16 p (State.lockFor 0x16 true)

/-- LOCK, 0x16 (R19). -/
def execLock (p : List Byte) (s : State) : Outcome := .next (s.takeFrame (.lock p) (performLock p))

/-- UNLOCK (R19). -/
def performUnlock (p : List Byte) (s : State) : State := s.oneDesign 0x17 p (State.lockFor 0x17 false)

/-- UNLOCK, 0x17 (R19). -/
def execUnlock (p : List Byte) (s : State) : Outcome := .next (s.takeFrame (.unlock p) (performUnlock p))

/-- DESCRIBE (R20). -/
def performDescribe (p : List Byte) (s : State) : State :=
  s.oneDesign 0x18 p fun d s => s.reply 0x18 .ok (.design (s.designs.get d) (s.inUse d))

/-- DESCRIBE, 0x18 (R20). -/
def execDescribe (p : List Byte) (s : State) : Outcome := .next (s.takeFrame (.describe p) (performDescribe p))

/-- The state that a descriptor is in (R10). -/
def Descriptor.state : Descriptor → DesignState
  | .empty => .empty
  | .loading _ _ => .loading
  | .ready _ _ => .ready

/-- Design `d`'s item of LIST_DESIGNS (R20). -/
def State.designItem (s : State) (d : Design) : DesignItem :=
  { state := (s.designs.get d).state, attrs := (s.designs.get d).attributes, inUse := s.inUse d }

/-- LIST_DESIGNS (R20). -/
def performListDesigns (p : List Byte) (s : State) : State :=
  s.noArgument 0x19 p fun s => s.reply 0x19 .ok (.designs (List.ofFn s.designItem))

/-- LIST_DESIGNS, 0x19 (R20). -/
def execListDesigns (p : List Byte) (s : State) : Outcome := .next (s.takeFrame (.listDesigns p) (performListDesigns p))

end Sys2Proof.Machine
end

