-- ==== Sys2Proof/Machine/Frame.lean ====
section
/-! DEFINITION. The frame motion unit: moves, follow-on moves, annotation of the queue, and what an
emergency halt leaves (chapter 5). -/

namespace Sys2Proof.Machine

/-- A direction output set to the sign of its axis's displacement; a zero displacement leaves it (R76). -/
def Direction.toward (old : Direction) (v : Int) : Direction :=
  if 0 < v then .positive else if v < 0 then .negative else old

/-- A move begins from a KNOWN position (R75, R76). A move of zero steps completes at its begin. -/
def FrameUnit.beginMove (cfg : Configuration) (kind : MoveKind) (disp : Point) (f : FrameUnit) : FrameUnit :=
  match f.state with
  | .known p =>
    if disp.major = 0 then f
    else
      { f with
        state := .moving { kind := kind, start := p, disp := disp, time := cfg.moveTime disp.major, issued := 0 }
        dirX := f.dirX.toward disp.x
        dirY := f.dirY.toward disp.y }
  | .unknown => f
  | .homing _ _ => f
  | .moving _ => f

/-- A sewing move begins, or is held behind the move in flight, merged with the follow-on that waits
there (R84). -/
def FrameUnit.beginSewing (cfg : Configuration) (disp : Point) (f : FrameUnit) : FrameUnit :=
  if f.state.isMoving then
    let total := match f.followOn with
      | none => disp
      | some g => g.disp.add disp
    { f with followOn := some { disp := total, time := cfg.moveTime total.major } }
  else f.beginMove cfg .sewing disp

/-- The last pulse of the move in flight is issued: the frame is KNOWN at the target, and a follow-on
move begins from there (R76, R84). A residual move that completes is no longer held (R89). -/
def FrameUnit.complete (cfg : Configuration) (f : FrameUnit) : FrameUnit :=
  match f.state with
  | .moving m =>
    let residual := if m.kind = .residual then none else f.residual
    match f.followOn with
    | none => { f with state := .known m.target, residual := residual }
    | some g =>
      { f with state := .known m.target, followOn := none, residual := residual }.beginMove cfg .sewing g.disp
  | .unknown => f
  | .homing _ _ => f
  | .known _ => f

/-- What is left of a move in flight and of the follow-on behind it (R88). -/
def FrameUnit.remainder (f : FrameUnit) (m : Move) : Point :=
  let left := m.target.sub m.position
  match f.followOn with
  | none => left
  | some g => left.add g.disp

/-- The pulses stop at once (R88, R80): the position is where the pulses left the frame, and the
unissued rest of a run's move is kept as the residual move. -/
def FrameUnit.halt (f : FrameUnit) : FrameUnit :=
  match f.state with
  | .moving m =>
    let left := f.remainder m
    let residual :=
      if m.kind = .host then none else if left = ⟨0, 0⟩ then none else some left
    { f with state := .known m.position, followOn := none, residual := residual }
  | .homing _ _ => { f with state := .unknown, homing := .interrupted }
  | .unknown => f
  | .known _ => f

/-- The previous planned position of an entry that joins the queue (R82). -/
def State.plannedFrom (s : State) : Point :=
  match s.queue.getLast? with
  | some e => e.planned
  | none =>
    match s.frame.state with
    | .moving m =>
      match s.frame.followOn with
      | none => m.target
      | some g => m.target.add g.disp
    | .known p => p
    | .unknown => ⟨0, 0⟩
    | .homing _ _ => ⟨0, 0⟩

/-- The annotation of a movement entry (R77, R78, R82, R83). -/
def State.annotateMove (s : State) (kind : EntryKind) (pos : Position) (dx dy : Int) : Entry :=
  let m := 2 * max dx.natAbs dy.natAbs
  let t := s.config.moveTime m
  let planned := s.plannedFrom.add ⟨2 * dx, 2 * dy⟩
  { kind := kind, pos := pos, steps := m, time := t, nMax := s.config.nMax t,
    stationary := decide (s.config.nMax t < s.config.speedMin), planned := planned,
    limit := !s.config.inField planned }

/-- The annotation of any other entry (R82, R83). -/
def State.annotateStill (s : State) (kind : EntryKind) (pos : Position) : Entry :=
  { kind := kind, pos := pos, steps := 0, time := 0, nMax := s.config.speedMax, stationary := false,
    planned := s.plannedFrom, limit := false }

/-- An entry with its annotation (R83). -/
def State.annotate (s : State) (kind : EntryKind) (pos : Position) : Entry :=
  match kind with
  | .stitch dx dy => s.annotateMove kind pos dx dy
  | .jump dx dy => s.annotateMove kind pos dx dy
  | .trim => s.annotateStill kind pos
  | .colour _ => s.annotateStill kind pos
  | .pause => s.annotateStill kind pos
  | .endMain => s.annotateStill kind pos
  | .fault _ => s.annotateStill kind pos

/-- A frame move of the state's frame motion unit begins. -/
def State.beginMove (kind : MoveKind) (disp : Point) (s : State) : State :=
  { s with frame := s.frame.beginMove s.config kind disp }

/-- One pulse of an axis that has not found its switch, up to its travel limit (R80). -/
def HomeAxis.pulse (limit : Nat) (a : HomeAxis) : HomeAxis :=
  if a.found then a else { a with pulses := min (limit - 1) (a.pulses + 1) }

/-- One pulse of the motion in flight; the last one is MOVE_COMPLETE's or the switch's (log 2). -/
def FrameUnit.pulse (cfg : Configuration) (f : FrameUnit) : FrameUnit :=
  match f.state with
  | .moving m => { f with state := .moving { m with issued := min (m.disp.major - 1) (m.issued + 1) } }
  | .homing x y =>
    { f with state := .homing (x.pulse (travelLimit cfg.fieldXlo cfg.fieldXhi)) (y.pulse (travelLimit cfg.fieldYlo cfg.fieldYhi)) }
  | .unknown => f
  | .known _ => f

end Sys2Proof.Machine
end

