-- ==== Sys2Proof/Machine/Heads.lean ====
section
/-! DEFINITION. The head monitor: latches and trimmers, the thread charge and its tests, breaks, the
colour-change rule, the placement at START and RESUME, rejoining, and the end of a run (chapter 8). -/

namespace Sys2Proof.Machine

/-- Head `h`'s record replaced. -/
def State.setHead (h : Head) (r : HeadRecord) (s : State) : State := { s with heads := s.heads.set h r }

/-- The head becomes SEWING: its balance becomes 0 and its grace count 2 (R140). -/
def HeadRecord.toSewing (r : HeadRecord) : HeadRecord := { r with state := .sewing, balance := 0, grace := 2 }

/-- The head becomes WAITING at START or RESUME (R140, R147). -/
def HeadRecord.toWaiting (resumeAt : Nat) (r : HeadRecord) : HeadRecord :=
  { r with state := .waiting resumeAt, balance := 0, grace := 2 }

/-- The head becomes BROKEN: its balance becomes 0 (R143, R146, R147). -/
def HeadRecord.toBroken (mend : Nat) (r : HeadRecord) : HeadRecord :=
  { r with state := .broken mend, balance := 0 }

/-- The THREAD_BREAK causes tested: a head neither BROKEN nor with a BROKEN needle state clears (R151). -/
def State.testThreadBreaks (s : State) : State :=
  allHeads.foldl
    (fun s h =>
      if (s.heads.get h).state.isBroken || s.anyNeedleBroken h then s else s.clearCause (.threadBreak h)) s

/-- THREAD_BREAK opened for a head, carrying the current needle (R151). -/
def State.openThreadBreak (h : Head) (cause : BreakCause) (position : Option Position) (s : State) : State :=
  s.openCause (.threadBreak h) s.run.needle (.threadBreak cause) position

/-! ## Latches and trimmers -/

/-- The heads whose latch goes on for a record: the SEWING ones, for a STITCH or a TRIM (R135). -/
def State.penetrating (s : State) (k : RevKind) : Table 12 Bool :=
  s.heads.map fun r => k.penetrates && decide (r.state = .sewing)

/-- The latches set for the record begun (R135). -/
def State.setLatches (k : RevKind) (s : State) : State :=
  { s with heads := s.heads.map fun r => { r with latch := k.penetrates && decide (r.state = .sewing) } }

/-- Every latch goes off (R136). -/
def State.latchesOff (s : State) : State :=
  { s with heads := s.heads.map fun r => { r with latch := false } }

/-- Every latch goes off when the shaft is at rest with no record pending completion (R136). -/
def State.latchesOffAtRest (s : State) : State :=
  if s.shaft.atRest && !s.shaft.pendingFlag then s.latchesOff else s

/-- Every trimmer output goes off (R137). -/
def State.trimmersOff (s : State) : State :=
  { s with heads := s.heads.map fun r => { r with trimmer := false } }

/-- The trimmers of a penetrating set go on (R137). -/
def State.trimmersOn (pen : Table 12 Bool) (s : State) : State :=
  { s with heads := s.heads.mapIdx fun h r => { r with trimmer := r.trimmer || pen.get h } }

/-! ## The completion point -/

/-- The stitch length of a displacement in su (R138). -/
def stitchLength (dx dy : Int) : Nat :=
  max dx.natAbs dy.natAbs + min dx.natAbs dy.natAbs / 2

/-- The thread demand of a record (R138). -/
def Configuration.demand (cfg : Configuration) : RevKind → Nat
  | .stitch dx dy => stitchLength dx dy + cfg.loopAllowance
  | .trim => cfg.loopAllowance
  | .jump => 0

/-- A balance raised by a demand, saturating at +2047 (R138). -/
def chargeBalance (b : Int) (demand : Nat) : Int := min 2047 (b + demand)

/-- A balance lowered by a pulse, saturating at −2048 (R139). -/
def pulseBalance (b : Int) (su : Nat) : Int := max (-2048) (b - su)

/-- Head `h`'s state at the current needle becomes BROKEN (R143). -/
def State.breakNeedle (h : Head) (s : State) : State :=
  match s.run.needle with
  | none => s
  | some n =>
    let e := s.needles.get n
    { s with needles := s.needles.set n { e with perHead := e.perHead.set h .broken } }

/-- The mend ordinal of a break found at P (R143). -/
def State.mendOrdinal (s : State) : Nat :=
  max (satOrdinal (s.run.blockStart + 1)) (s.run.ordinal - s.config.mendLead)

/-- A break on head `h` (R143, steps 1 to 4 and 6; step 5 is the begin point's). -/
def State.breakHead (h : Head) (cause : BreakCause) (s : State) : State :=
  let s1 := s.setHead h ((s.heads.get h).toBroken s.mendOrdinal)
  let s2 := (s1.breakNeedle h).openThreadBreak h cause s.run.chain
  if s.sewing && decide (s.config.breakPolicy = .stop) then s2.requestStop .breakStop else s2

/-- A loose outcome on head `h` (R141, R142). -/
def State.looseHead (h : Head) (s : State) : State :=
  (s.openCause (.threadLoose h) s.run.needle .none s.run.chain).setHead h
    { s.heads.get h with looseQuiet := some s.config.looseQuiet, balance := 0 }

/-- The loose-quiet count lowered at a completion with no loose outcome (R142). -/
def State.quietHead (h : Head) (s : State) : State :=
  match (s.heads.get h).looseQuiet with
  | none => s
  | some n =>
    if n ≤ 1 then (s.setHead h { s.heads.get h with looseQuiet := none }).clearCause (.threadLoose h)
    else s.setHead h { s.heads.get h with looseQuiet := some (n - 1) }

/-- Tests 3 and 4 of R141, on the bobbin meter. -/
def State.testBobbin (h : Head) (s : State) : State :=
  let meter := (s.heads.get h).meter
  if s.config.bobbinSu ≤ meter then s.breakHead h .bobbin
  else if decide (s.config.bobbinWarn ≤ meter) && !s.causeOpen (.bobbinLow h) then
    s.openCause (.bobbinLow h) s.run.needle (.meter meter) none
  else s

/-- The balance lies below −loose_threshold, and test 1 gave no break (R141). -/
def Configuration.isLoose (cfg : Configuration) (b : Int) : Bool :=
  decide (b ≤ cfg.breakThreshold ∧ b < -(cfg.looseThreshold : Int))

/-- The tests of R141 on head `h`, in their order. -/
def State.testHead (h : Head) (s : State) : State :=
  let b := (s.heads.get h).balance
  if (s.config.breakThreshold : Int) < b then s.breakHead h .upper
  else if s.config.isLoose b then (s.looseHead h).testBobbin h
  else s.testBobbin h

/-- Head `h` of the penetrating set is charged and judged at a completion point (R138 to R142). -/
def State.chargeHead (k : RevKind) (h : Head) (s : State) : State :=
  let r := s.heads.get h
  let d := s.config.demand k
  let charged := { r with balance := chargeBalance r.balance d, meter := r.meter + d }
  let judged := decide (r.grace = 0)
  let s1 := s.setHead h { charged with grace := r.grace - 1 }
  let s2 := if judged then s1.testHead h else s1
  let s3 := if judged && s.config.isLoose charged.balance then s2 else s2.quietHead h
  if k = .trim then s3.setHead h { s3.heads.get h with grace := 2 } else s3

/-- With no head SEWING or WAITING, a controlled stop is requested (R144). -/
def State.noHeadsTest (s : State) : State := if s.anySound then s else s.requestStop .noHeads

/-- The head monitor's work at a completion point: each penetrating head in ascending number, then
the test of R144; a TRIM's trimmers go off (R137, R138, R144). -/
def State.chargeHeads (a : Active) (s : State) : State :=
  let s1 := allHeads.foldl (fun s h => if a.pen.get h then s.chargeHead a.kind h else s) s
  let s2 := if a.kind = .trim then s1.trimmersOff else s1
  s2.noHeadsTest

/-- The completion point of the record in progress or pending completion (R93, R107). -/
def State.completeRecord (s : State) : State :=
  match s.shaft.active with
  | none => s
  | some a =>
    let s1 := { s with shaft := { s.shaft with active := none, pendingFlag := false } }
    if a.kind.penetrates then s1.chargeHeads a else s1

/-! ## Rejoining, colour changes, placement -/

/-- A WAITING head whose resume-at ordinal `p` has reached becomes SEWING (R148). -/
def HeadRecord.rejoin (p : Nat) (r : HeadRecord) : HeadRecord :=
  match r.state with
  | .waiting resumeAt => if resumeAt ≤ p then r.toSewing else r
  | .off => r
  | .idle => r
  | .sewing => r
  | .broken _ => r

/-- Every WAITING head whose resume-at ordinal P has reached becomes SEWING (R148). -/
def State.rejoin (s : State) : State :=
  ({ s with heads := s.heads.map (HeadRecord.rejoin s.run.ordinal) }).testThreadBreaks

/-- The colour-change rule for one enabled head (R146). -/
def State.colourHead (position : Option Position) (h : Head) (s : State) : State :=
  let r := s.heads.get h
  let mend := satOrdinal (s.run.blockStart + 1)
  if s.readyNow h then
    match r.state with
    | .sewing => s.setHead h r.toSewing
    | .waiting _ => s.setHead h r.toSewing
    | .broken _ => s.setHead h r.toSewing
    | .off => s
    | .idle => s
  else
    let dropped := (s.setHead h (r.toBroken mend)).openThreadBreak h .needleNotReady position
    let stopped := if s.config.breakPolicy = .stop then dropped.requestStop .breakStop else dropped
    match r.state with
    | .sewing => stopped
    | .waiting _ => stopped
    | .broken _ =>
      (s.setHead h { r with state := .broken mend }).openThreadBreak h .needleNotReady position
    | .off => s
    | .idle => s

/-- The colour-change rule over the enabled heads in ascending number, the test of R144, and the
THREAD_BREAK tests (R146, R151). -/
def State.colourHeads (position : Option Position) (s : State) : State :=
  (allHeads.foldl (fun s h => if s.enabled h then s.colourHead position h else s) s).noHeadsTest.testThreadBreaks

/-- The placement of one enabled head at START or RESUME (R147). -/
def State.placeHead (position : Option Position) (h : Head) (s : State) : State :=
  let r := s.heads.get h
  let next := s.run.ordinal + 1
  let beyond := satOrdinal (s.run.frontier + 1)
  let sound := if s.run.ordinal < s.run.frontier then r.toWaiting beyond else r.toSewing
  let broken := fun mend => (s.setHead h (r.toBroken mend)).openThreadBreak h .needleNotReady position
  if s.readyNow h then
    match r.state with
    | .broken mend => s.setHead h (if mend ≤ next then r.toSewing else r.toWaiting mend)
    | .waiting resumeAt => s.setHead h (if resumeAt ≤ next then r.toSewing else r.toWaiting resumeAt)
    | .idle => s.setHead h sound
    | .sewing => s.setHead h sound
    | .off => s
  else
    match r.state with
    | .broken mend => s.setHead h (r.toBroken mend)
    | .waiting resumeAt => broken resumeAt
    | .idle => broken beyond
    | .sewing => broken beyond
    | .off => s

/-- The placement of every enabled head, the THREAD_BREAK tests, and the NO_HEADS request (R147). R147 and R179 give
no order of the heads; theirs is the ascending number (log 40). -/
def State.placeHeads (position : Option Position) (s : State) : State :=
  (allHeads.foldl (fun s h => if s.enabled h then s.placeHead position h else s) s).testThreadBreaks.noHeadsTest

/-! ## The end of a run -/

/-- A head at the end of a run; a trimmer that a discarded TRIM fired is off (R152, log 37). -/
def HeadRecord.endRun (r : HeadRecord) : HeadRecord :=
  { r with
    state := match r.state with
      | .off => .off
      | .idle => .idle
      | .sewing => .idle
      | .waiting _ => .idle
      | .broken _ => .idle
    balance := 0, grace := 0, looseQuiet := none, trimmer := false }

/-- The heads at the end of a run: THREAD_LOOSE clears for each head, every head that is not OFF
becomes IDLE, and the THREAD_BREAK causes are tested (R152). -/
def State.endHeads (s : State) : State :=
  let s1 := allHeads.foldl (fun s h => s.clearCause (.threadLoose h)) s
  ({ s1 with heads := s1.heads.map HeadRecord.endRun }).testThreadBreaks

end Sys2Proof.Machine
end

