-- ==== Sys2Proof/Machine/Speed.lean ====
section
/-! DEFINITION. The speed plan (section 6.3) and the speed command within the TDC band (R92). -/

namespace Sys2Proof.Machine

/-- The lowest speed one revolution's deceleration reaches: max(speed_min, Vprev − decel_step) (R98). -/
def State.floorSpeed (s : State) : Nat := max s.config.speedMin (s.shaft.vPrev - s.config.decelStep)

/-- The effective cap computed at a begin point (R98). -/
def State.effectiveCap (s : State) : Nat :=
  let base := min s.config.speedMax (max s.shaft.hostCap s.floorSpeed)
  if s.shaft.backoff || decide (s.shaft.stopReq = .controlled) then min base s.floorSpeed else base

/-- The speed ceiling of the current needle, or speed_max when its entry is not valid (R99). -/
def State.ceiling (s : State) : Nat :=
  match s.run.needle with
  | none => s.config.speedMax
  | some n =>
    match (s.needles.get n).thread with
    | none => s.config.speedMax
    | some t => t.ceiling

/-- The kind limit of an entry (R99). -/
def State.kindLimit (s : State) (e : Entry) : Nat :=
  if e.kind = .trim then s.config.speedTrim else s.config.speedMax

/-- The limit of a non-stop entry (R99). -/
def State.entryLimit (s : State) (cap : Nat) (e : Entry) : Nat :=
  min cap (min e.nMax (min s.ceiling (s.kindLimit e)))

/-- The bound of the entry at position `j ≥ 1` (R100). -/
def State.boundAt (s : State) (cap j : Nat) (e : Entry) : Nat :=
  if e.isStop then s.config.speedMin + (j - 1) * s.config.decelStep
  else s.entryLimit cap e + j * s.config.decelStep

/-- The least bound of the entries from position `j` on, the unknown record beyond the tail included
(R100). -/
def State.boundBeyond (s : State) (cap : Nat) : Nat → List Entry → Nat
  | j, [] => s.config.speedMin + (j - 1) * s.config.decelStep
  | j, e :: es => min (s.boundAt cap j e) (s.boundBeyond cap (j + 1) es)

/-- The plan bound V* with `e` the entry being begun and `rest` the entries behind it (R100). -/
def State.planBound (s : State) (cap : Nat) (e : Entry) (rest : List Entry) : Nat :=
  min (s.entryLimit cap e) (s.boundBeyond cap 1 rest)

/-- The commanded speed V0 of the revolution being begun (R101). -/
def State.planSpeed (s : State) (e : Entry) (rest : List Entry) : Nat :=
  max s.floorSpeed (min (s.planBound s.effectiveCap e rest) (s.shaft.vPrev + s.config.accelStep))

/-- The effective cap is computed at a begin point, and the backoff request is consumed (R98). -/
def State.commitCap (s : State) : State :=
  { s with shaft := { s.shaft with capEff := s.effectiveCap, backoff := false } }

/-- A revolution's speed is set on the speed command (R92, R98, R101). -/
def State.commitSpeed (e : Entry) (rest : List Entry) (s : State) : State :=
  let v := s.planSpeed e rest
  let s1 := s.commitCap
  { s1 with shaft := { s1.shaft with state := .turning, command := v, enable := true, vPrev := v } }

/-- In PARKING, and in POSITIONING with no record pending, the command becomes 0 within the TDC band, and a shaft
at rest there is STILL at TDC (R92, R110, R166). -/
def Shaft.bandCheck (cfg : Configuration) (sh : Shaft) : Shaft :=
  if inBand cfg sh.angle ∧ (sh.state = .parking ∨ (sh.state = .positioning ∧ sh.pendingFlag = false)) then
    { sh with command := 0, state := if sh.atRest then .still else sh.state }
  else sh

/-- The band check on the state's shaft. -/
def State.bandCheck (s : State) : State := { s with shaft := s.shaft.bandCheck s.config }

/-- No begin point is made: the shaft is brought to rest at TDC (R92, R94). -/
def State.park (s : State) : State :=
  { s with shaft := { s.shaft with state := .parking, command := min s.shaft.vPrev s.config.speedMin } }.bandCheck

end Sys2Proof.Machine
end

