-- ==== Sys2Proof/Machine/Run.lean ====
section
/-! DEFINITION. Holding a run, ending it, and the emergency halt (chapter 9). -/

namespace Sys2Proof.Machine

/-- The resume point of a hold: the head entry's position, or the fetch position when the queue is empty
(R57). -/
def State.holdPoint (s : State) : Option Position :=
  match s.queue with
  | e :: _ => some e.pos
  | [] => some s.feed.fetch

/-- What every entry into STOPPED, HALTED and IDLE does besides: the queue is flushed, the feed becomes
IDLE, no stop is requested or pending, and the run-change flag is set (R159, R164, R170). -/
def State.flush (s : State) : State :=
  { s.feedIdle with
    queue := []
    shaft := { s.shaft with stopReq := .none }
    run := { s.run with pendingStop := false }
    link := { s.link with runChange := true } }

/-- The run enters STOPPED (R159). -/
def State.enterStopped (reason : StopReason) (s : State) : State :=
  { s with run := { s.run with state := .stopped, reason := reason, resume := s.holdPoint } }.flush

/-- A walk ends: the run is STOPPED with the resume point that the walk left (R68, R72, R168). -/
def State.endWalk (s : State) : State :=
  let done := match s.walk with
    | none => s.run.lastTrace
    | some w => w.done
  { s with walk := none, run := { s.run with state := .stopped, lastTrace := done } }.flush

/-- The run enters HALTED, or is halted again (R170). -/
def State.enterHalted (reason : StopReason) (s : State) : State :=
  let done := match s.walk with
    | none => s.run.lastTrace
    | some w => w.done
  match s.run.state with
  | .idle => s
  | .halted => { s with run := { s.run with reason := reason } }
  | .stopped => { s with run := { s.run with state := .halted, reason := reason } }.flush
  | .backing =>
    { s with walk := none, run := { s.run with state := .halted, reason := reason, lastTrace := done } }.flush
  | .running => { s with run := { s.run with state := .halted, reason := reason, resume := s.holdPoint } }.flush
  | .stopping => { s with run := { s.run with state := .halted, reason := reason, resume := s.holdPoint } }.flush
  | .changing => { s with run := { s.run with state := .halted, reason := reason, resume := s.holdPoint } }.flush

/-- The run ends (R152, R164). A record in progress or pending is discarded with no completion point. -/
def State.endRun (result : RunResult) (reason : StopReason) (s : State) : State :=
  let s1 :=
    { s with
      walk := none
      frame := { s.frame with residual := none }
      shaft := { s.shaft with active := none, pendingFlag := false }
      run := { s.run with state := .idle, reason := reason, result := result, blockEnd := false,
                          chain := none, visited := [], resume := none } }.flush
  (((s1.clearCause .frameLimit).clearCause .recordFault).clearCause .needleUnmatched).endHeads.latchesOffAtRest.bandCheck

/-- The drive is disabled, and the record begun or pending is discarded with no completion point: the shaft is
COASTING while it turns and STILL once at rest (R92, R108, R111). -/
def Shaft.release (sh : Shaft) : Shaft :=
  { sh with
    state := if sh.atRest then .still else .coasting
    command := 0, enable := false, backoff := false, active := none, pendingFlag := false }

/-- The shaft as an emergency halt leaves it: with the drive disabled already the halt has no further effect on
its state, so that a STILL shaft turned by hand stays STILL (R108). -/
def Shaft.halt (sh : Shaft) : Shaft :=
  if sh.enable = false ∧ sh.state = .still then { sh.release with state := .still } else sh.release

/-- The frame motion unit as an emergency halt leaves it; only a run has a residual move (R88). -/
def State.haltedFrame (s : State) : FrameUnit :=
  let f := s.frame.halt
  if s.runExists then f else { f with residual := none }

/-- An emergency halt, from the halt line or from a stall (R88, R108, R127, R137, R169). -/
def State.emergencyHalt (reason : StopReason) (s : State) : State :=
  ({ s with
    shaft := s.shaft.halt
    frame := s.haltedFrame
    carriage := { s.carriage with state := .idle } }.trimmersOff.latchesOffAtRest).enterHalted reason

end Sys2Proof.Machine
end

