-- ==== Sys2Proof/Machine/Carriage.lean ====
section
/-! DEFINITION. Selecting a needle for a thread code, the steps of a carriage move, its faults, and the
colour change (chapter 7). -/

namespace Sys2Proof.Machine

/-! ## The match (R118, R119) -/

/-- The code of needle `n`'s entry equals `c`; only a valid and installed entry counts (R118). -/
def State.codeEquals (s : State) (c : Half) (n : Needle) : Bool :=
  match (s.needles.get n).thread with
  | none => false
  | some t => s.config.installed n && decide (t.code = c)

/-- Needle `n`'s entry matches `c`: they agree in every bit that the mask leaves (R118). -/
def State.entryMatches (s : State) (c : Half) (n : Needle) : Bool :=
  match (s.needles.get n).thread with
  | none => false
  | some t => s.config.installed n && decide ((t.code ^^^ c) &&& ~~~ t.mask = 0)

/-- The outcome of a match. -/
inductive Selection where
  | needle (n : Needle)
  | unmatched (reason : Unmatched)
  deriving DecidableEq, Repr

/-- Step 3 of R118, and the reason of R119 when it selects none. -/
def selectAmong : List Needle → Selection
  | [] => .unmatched .none
  | [n] => .needle n
  | _ :: _ :: _ => .unmatched .ambiguous

/-- Steps 2 to 4 of R118. -/
def State.selectMatching (s : State) (c : Half) : Selection :=
  match s.run.needle with
  | some n => if s.entryMatches c n then .needle n else selectAmong (allNeedles.filter (s.entryMatches c))
  | none => selectAmong (allNeedles.filter (s.entryMatches c))

/-- The selection of a needle for thread code `c` (R118, R119). -/
def State.select (s : State) (c : Half) : Selection :=
  match allNeedles.filter (s.codeEquals c) with
  | [n] => .needle n
  | [] => s.selectMatching c
  | _ :: _ :: _ => s.selectMatching c

/-! ## Steps (R121, R130) -/

/-- The position next to `p` in the direction of `target`. -/
def stepToward (p target : Needle) : Needle :=
  if h : p.val < target.val then ⟨p.val + 1, by omega⟩ else ⟨p.val - 1, by omega⟩

/-- The direction of the carriage from `p` to `target`. -/
def dirToward (p target : Needle) : CarriageDir := if p.val < target.val then .up else .down

/-- A step toward the target begins from position `p` (R121). -/
def Carriage.step (p target : Needle) (c : Carriage) : Carriage :=
  { c with state := .stepping target (some (stepToward p target)), dir := some (dirToward p target) }

/-- A carriage move begins; between two positions it begins with a search step (R121, R130). -/
def Carriage.beginMove (target : Needle) (c : Carriage) : Carriage :=
  match needleAt c.code with
  | some p => c.step p target
  | none => { c with state := .stepping target none, dir := some (c.dir.getD .down) }

/-! ## Faults and completions -/

/-- The position of the COLOUR entry, during a colour change (R128). -/
def State.colourPosition (s : State) : Option Position :=
  match s.run.state with
  | .changing => s.queue.head?.map (·.pos)
  | .idle => none
  | .running => none
  | .stopping => none
  | .stopped => none
  | .backing => none
  | .halted => none

/-- A carriage fault (R128); `target` is absent when the carriage is found lost before a match (log 14). -/
def State.carriageFault (fault : CarriageFault) (target : Option Needle) (s : State) : State :=
  let s1 :=
    { s with carriage := { s.carriage with state := .idle } }.openCause .carriageFault target
      (.carriage fault) s.colourPosition
  if s.run.state = .changing then s1.enterStopped .carriageFault else s1

/-- The NEEDLE_UNMATCHED cause clears when it was opened for the record at `p` (R123, R174). -/
def State.clearUnmatched (p : Position) (s : State) : State :=
  match s.condition? .needleUnmatched with
  | none => s
  | some c => if c.position = some p then s.clearCause .needleUnmatched else s

/-- The run goes on or is held after a colour change (R124). -/
def State.afterChange (s : State) : State :=
  if s.run.pendingStop then s.enterStopped s.run.reason
  else if s.config.autoResume then { s with run := { s.run with state := .running } }
  else s.enterStopped .colourDone

/-- A colour change is done at `target` (R123, R124): the COLOUR record is executed, and the run goes
on or is held. -/
def State.changeDone (target : Needle) (s : State) : State :=
  match s.queue with
  | [] => s
  | e :: rest =>
    let s1 := { s with run := { s.run with needle := some target, blockStart := s.run.ordinal, blockEnd := false } }
    let s2 := (s1.clearCause .carriageFault).colourHeads (some e.pos)
    let s3 := { s2 with queue := rest, run := { s2.run with chain := some e.pos } }
    (s3.clearUnmatched e.pos).afterChange

/-- A SELECT_NEEDLE move is complete (R128, R129). -/
def State.selectDone (target : Needle) (s : State) : State :=
  { s with run := { s.run with needle := some target } }.clearCause .carriageFault

/-- A carriage move is complete at a valid position. -/
def State.carriageDone (target : Needle) (s : State) : State :=
  let s1 := { s with carriage := { s.carriage with state := .idle } }
  if s.run.state = .changing then s1.changeDone target else s1.selectDone target

/-- A quick stop has come during this colour change (R126). -/
def State.quickInChange (s : State) : Bool :=
  decide (s.run.state = .changing) && s.run.pendingStop && decide (s.run.reason = .quickStop)

/-- A colour change ends without executing its record (R126). -/
def State.abandonChange (s : State) : State :=
  { s with carriage := { s.carriage with state := .idle } }.enterStopped .quickStop

/-- A step has reached position `p` (R121, R126): the next step, the settle, or the end of the move. -/
def State.stepDone (p target : Needle) (s : State) : State :=
  if s.quickInChange then s.abandonChange
  else if p = target then
    if s.config.carriageSettle = 0 then s.carriageDone target
    else { s with carriage := { s.carriage with state := .settling target } }
  else { s with carriage := s.carriage.step p target }

/-- The code inputs give a new code (R120, R121, R130). -/
def State.codeChange (code : Fin 16) (s : State) : State :=
  let s1 := { s with carriage := { s.carriage with code := code, last := (needleAt code).or s.carriage.last } }
  match s.carriage.state with
  | .idle => s1
  | .settling _ => s1
  | .stepping target expected =>
    match needleAt code with
    | none => s1
    | some p =>
      match expected with
      | none => s1.stepDone p target
      | some e =>
        if p = e then s1.stepDone p target
        else if s.carriage.last = some p then s1
        else s1.carriageFault .wrongPosition (some target)

/-- The settle time ends and the code is read (R121). -/
def State.settleEnd (s : State) : State :=
  match s.carriage.state with
  | .settling target =>
    if needleAt s.carriage.code = some target then s.carriageDone target
    else s.carriageFault .wrongPosition (some target)
  | .idle => s
  | .stepping _ _ => s

/-- The step timeout passes (R121). -/
def State.stepTimeout (s : State) : State :=
  match s.carriage.state with
  | .stepping target _ => s.carriageFault .timeout (some target)
  | .idle => s
  | .settling _ => s

/-- The shaft leaves rest (R121). -/
def State.shaftMoved (s : State) : State :=
  match s.carriage.state with
  | .stepping target _ => s.carriageFault .shaftMoved (some target)
  | .idle => s
  | .settling _ => s

/-- A colour change begins for the entry `e` at the head of the queue (R122). -/
def State.beginChange (e : Entry) (code : Half) (s : State) : State :=
  let s1 := { s with run := { s.run with state := .changing } }
  match s1.carriagePosition with
  | none => s1.carriageFault .lost none
  | some p =>
    match s1.select code with
    | .unmatched reason =>
      (s1.openCause .needleUnmatched none (.unmatched reason code) (some e.pos)).enterStopped .needleUnmatched
    | .needle n =>
      if n = p then s1.carriageDone n else { s1 with carriage := s1.carriage.beginMove n }

end Sys2Proof.Machine
end

