-- ==== Sys2Proof/Machine/HeadOfQueue.lean ====
section
/-! DEFINITION. Begin points, and what the head of the queue decides while the shaft is STILL (R94 to
R96, R105 to R107). -/

namespace Sys2Proof.Machine

/-- The head entry leaves the queue as taken: the chain moves to it, and a movement entry raises P and F
and rejoins waiting heads (R55, R65, R148). -/
def State.take (e : Entry) (rest : List Entry) (s : State) : State :=
  let s1 := { s with queue := rest, run := { s.run with chain := some e.pos } }
  if e.isMovement then
    let p := satOrdinal (s.run.ordinal + 1)
    { s1 with run := { s1.run with ordinal := p, frontier := max s.run.frontier p } }.rejoin
  else s1

/-- The record begun is in progress, with its latches set (R93, R135). -/
def State.inProgress (k : RevKind) (s : State) : State :=
  let s1 := { s with shaft := { s.shaft with active := some { kind := k, pen := s.penetrating k, awaiting := false } } }
  s1.setLatches k

/-- The sewing move of a movement entry begins (R84). -/
def State.sewingMove (e : Entry) (s : State) : State :=
  if e.isMovement then { s with frame := s.frame.beginSewing s.config e.disp } else s

/-- A begin point for a non-stop entry (R94, R96). -/
def State.beginPoint (e : Entry) (rest : List Entry) (s : State) : State :=
  (((s.commitSpeed e rest).take e rest).inProgress e.revKind).sewingMove e

/-- The begin point of a stationary entry: it is taken for its move, with every latch off (R86, R96, R98,
R136). -/
def State.takeStationary (e : Entry) (rest : List Entry) (s : State) : State :=
  let s1 := (s.commitCap.take e rest).latchesOff
  { s1 with shaft := { s1.shaft with active := some { kind := e.revKind, pen := .fill false, awaiting := true } } }.beginMove
    .stationary e.disp

/-- The penetration revolution of a stationary STITCH, whose own N_max counts as speed_max (R96). -/
def State.penetrationRevolution (k : RevKind) (s : State) : State :=
  let s1 := { s with shaft := { s.shaft with vPrev := s.config.speedMin } }
  (s1.commitSpeed (s.annotateStill .pause (Position.main 0 0)) s.queue).inProgress k

/-- The frame has no move in flight. -/
def State.frameStill (s : State) : Bool := !s.frame.state.isMoving

/-- The shaft is STILL at rest. -/
def State.shaftStill (s : State) : Bool := decide (s.shaft.state = .still) && s.shaft.atRest

/-- A JUMP that a quick stop cut short completes once the shaft is at rest and its move complete
(R106, R107). -/
def State.completeCutJump (s : State) : State :=
  match s.shaft.active with
  | none => s
  | some a =>
    if a.kind = .jump ∧ s.shaftStill ∧ s.frameStill then { s with shaft := { s.shaft with active := none } } else s

/-- R95's table may be read (R95). -/
def State.headReadable (s : State) : Bool :=
  s.sewing && decide (s.shaft.stopReq ≠ .quick) && decide (s.shaft.state = .still) && s.atTdc &&
    s.shaft.active.isNone && s.frameStill

/-- A begin point at rest may be made (R96, the conditions beyond R95's). -/
def State.mayBeginAtRest (s : State) : Bool :=
  decide (s.run.state = .running) && decide (s.carriage.state = .idle) && !s.haltLine

/-- The RUN_ON block-end stop is taken at a COLOUR or END entry (R145). -/
def State.blockEndDue (s : State) : Bool :=
  decide (s.config.breakPolicy = .runOn) && s.anyBroken && !s.run.blockEnd

/-- The block-end stop (R145). -/
def State.blockEndStop (s : State) : State :=
  { s with run := { s.run with blockEnd := true } }.enterStopped .blockEndBroken

/-- The limit entry's stop, with the axes whose bounds it passes (R83, R172). -/
def State.limitStop (e : Entry) (s : State) : State :=
  (s.openCause .frameLimit none
    (.limit e.planned (!s.config.inX e.planned.x) (!s.config.inY e.planned.y)) (some e.pos)).enterStopped .frameLimit

/-- A movement or TRIM entry at the head, with the limit flag clear (R95, R96, R105). -/
def State.dealRecord (e : Entry) (rest : List Entry) (s : State) : State :=
  if s.run.pendingStop then s.enterStopped s.run.reason
  else if !s.mayBeginAtRest then s
  else
    let s1 := { s with shaft := { s.shaft with vPrev := s.config.speedMin } }
    if e.stationary then s1.takeStationary e rest else s1.beginPoint e rest

/-- The row of R95 for the entry at the head. -/
def State.dealEntry (e : Entry) (rest : List Entry) (s : State) : State :=
  match e.kind with
  | .colour code => if s.blockEndDue then s.blockEndStop else s.beginChange e code
  | .endMain => if s.blockEndDue then s.blockEndStop else s.endRun .complete .none
  | .pause => { s with queue := rest, run := { s.run with chain := some e.pos } }.enterStopped .pause
  | .fault reason => (s.openCause .recordFault none (.recordFault reason) (some e.pos)).enterStopped .recordFault
  | .stitch _ _ => if e.limit then s.limitStop e else s.dealRecord e rest
  | .jump _ _ => if e.limit then s.limitStop e else s.dealRecord e rest
  | .trim => if e.limit then s.limitStop e else s.dealRecord e rest

/-- R95's table, once (R95, R102, R105). -/
def State.dealHead (s : State) : State :=
  match s.queue with
  | [] => if s.run.pendingStop then s.enterStopped s.run.reason else s
  | e :: rest => s.dealEntry e rest

/-- R95's table, read again while it executes entries and its conditions hold: only a colour change done
at once leaves it so (R124, log 25). -/
def State.dealHeads : Nat → State → State
  | 0, s => s
  | fuel + 1, s =>
    if s.headReadable then
      let s1 := s.dealHead
      if s1.queue.length < s.queue.length then State.dealHeads fuel s1 else s1
    else s

/-- A quick stop is taken once the shaft is at rest and no move is in flight (R106). -/
def State.takeQuickStop (s : State) : State :=
  if s.sewing && s.shaftStill && s.frameStill then s.enterStopped s.run.reason else s

/-- What follows whenever the shaft is STILL: a cut JUMP completes, and a quick stop or the head of the
queue is dealt with (R95, R96, R105, R106). -/
def State.whenStill (s : State) : State :=
  let s1 := s.completeCutJump
  if s1.shaft.stopReq = .quick then s1.takeQuickStop else State.dealHeads (s1.queue.length + 1) s1

/-- The head of the queue is dealt with, and then the store granted (log 9). -/
def State.settle (s : State) : State := s.whenStill.arbitrate

/-- The shaft comes to rest (R92, R98, R106, R107, R110, R136). Vprev becomes speed_min in TURNING too, where R98 also
gives the V0 of the revolution in progress at its next crossing: the model's choice (log 41). -/
def Shaft.comeToRest (cfg : Configuration) (sh : Shaft) : Shaft :=
  let sh1 := { sh with atRest := true, vPrev := cfg.speedMin, backoff := false }
  match sh.state with
  | .parking =>
    if inBand cfg sh.angle then { sh1 with state := .still, command := 0 }
    else { sh1 with command := cfg.speedMin, enable := true }
  | .positioning =>
    if inBand cfg sh.angle ∧ sh.pendingFlag = false then { sh1 with state := .still, command := 0 }
    else { sh1 with command := cfg.speedMin, enable := true }
  | .braking =>
    let pends := match sh.active with
      | none => false
      | some a => a.kind.penetrates
    { sh1 with state := .still, command := 0, pendingFlag := pends }
  | .coasting => { sh1 with state := .still }
  | .still => sh1
  | .turning => sh1

/-- The shaft comes to rest, and its latches go off unless a record is pending (R136). -/
def State.comeToRest (s : State) : State :=
  { s with shaft := s.shaft.comeToRest s.config }.latchesOffAtRest

end Sys2Proof.Machine
end

