-- ==== Sys2Proof/Machine/Path.lean ====
section
/-! DEFINITION. The path feed's work on a completed burst, and the walk of the path (chapter 4). -/

namespace Sys2Proof.Machine

/-! ## Filling the queue (R60 to R63) -/

/-- An entry joins the tail of the queue with its annotation (R60, R82, R83). -/
def State.join (kind : EntryKind) (p : Position) (s : State) : State :=
  { s with queue := s.queue ++ [s.annotate kind p] }

/-- The fetch position becomes `p`. -/
def State.fetchAt (p : Position) (s : State) : State := { s with feed := { s.feed with fetch := p } }

/-- Why a CALL to `motif` at position `p` fails, if it does (R62). -/
def State.callFailure (s : State) (p : Position) (motif : Design) : Option FaultReason :=
  if !(s.designs.get motif).isReady then some .motifAbsent
  else if !(s.designs.get motif).isCallable then some .notCallable
  else if p.designs.contains motif then some .recursive
  else if 4 ≤ p.depth then some .tooDeep
  else none

/-- A design joins the visited set if it is not yet a member (R54). -/
def Run.visit (d : Design) (r : Run) : Run := if r.visited.contains d then r else { r with visited := r.visited ++ [d] }

/-- The RECORD_FAULT cause clears when the CALL at its position is followed (R173). -/
def State.clearRecordFault (p : Position) (s : State) : State :=
  match s.condition? .recordFault with
  | none => s
  | some c => if c.position = some p then s.clearCause .recordFault else s

/-- A CALL at position `p` is followed, or becomes a FAULT entry (R62, R63). -/
def State.processCall (p : Position) (motif : Design) (reps : Nat) (s : State) : State :=
  match s.callFailure p motif with
  | some reason =>
    let s1 := s.join (.fault reason) p
    { s1 with feed := { s1.feed with blocked := true } }
  | none =>
    ({ s with run := s.run.visit motif }.fetchAt (p.enter s.len motif reps)).clearRecordFault p

/-- The records of a FILLING burst, processed in index order (R60). -/
def State.feedRecords : List Record → State → State
  | [], s => s
  | r :: rs, s =>
    let p := s.feed.fetch
    match r with
    | .stitch dx dy => State.feedRecords rs ((s.join (.stitch dx dy) p).fetchAt (p.next s.len))
    | .jump dx dy => State.feedRecords rs ((s.join (.jump dx dy) p).fetchAt (p.next s.len))
    | .trim => State.feedRecords rs ((s.join .trim p).fetchAt (p.next s.len))
    | .colour code => State.feedRecords rs ((s.join (.colour code) p).fetchAt (p.next s.len))
    | .pause => State.feedRecords rs ((s.join .pause p).fetchAt (p.next s.len))
    | .call motif reps => s.processCall p motif reps
    | .endRec =>
      let s1 := s.join .endMain p
      { s1 with feed := { s1.feed with activity := .finished } }

/-! ## The walk (R68 to R72) -/

/-- What a record means to a walk that examines it. -/
inductive Found where
  /-- A movement record, with its displacement in su. -/
  | move (d : Point)
  /-- The record is passed; the walk stands at another position. -/
  | again (p : Position)
  /-- No record follows that the walk may reach. -/
  | nothing
  deriving DecidableEq, Repr

/-- The walk goes on at a position, if there is one. -/
def Found.at? (p : Option Position) : Found :=
  match p with
  | none => .nothing
  | some q => .again q

/-- A record met by a backward step (R69). -/
def foundBack (len : Design → Nat) (p : Position) : Record → Found
  | .stitch dx dy => .move ⟨dx, dy⟩
  | .jump dx dy => .move ⟨dx, dy⟩
  | .trim => .at? (p.prev len)
  | .pause => .at? (p.prev len)
  | .call motif reps => if 1 < len motif then .again (p.enterBack len motif reps) else .at? (p.prev len)
  | .colour _ => .nothing
  | .endRec => .nothing

/-- A record met by a forward step (R71). -/
def foundForward (len : Design → Nat) (p : Position) : Record → Found
  | .stitch dx dy => .move ⟨dx, dy⟩
  | .jump dx dy => .move ⟨dx, dy⟩
  | .trim => .again (p.next len)
  | .pause => .again (p.next len)
  | .call motif reps => .again (p.enter len motif reps)
  | .colour _ => .nothing
  | .endRec => .nothing

/-- The record at a position, when the walk's latest burst holds it (R68). -/
def Walk.record (w : Walk) (p : Position) : Option Record :=
  match w.held with
  | none => none
  | some h =>
    if h.design = p.inner.design ∧ h.first ≤ p.inner.index then
      (h.records[p.inner.index - h.first]?).bind decodeRecord
    else none

/-- The test made before each step: the clamp is reached, or the count is (R70, R71). -/
def State.walkFinished (s : State) (w : Walk) : Bool :=
  decide (w.done = w.count) ||
    match w.dir with
    | .backward => decide (s.run.ordinal = s.run.blockStart)
    | .forward => decide (s.run.ordinal = s.run.frontier)

/-- A backward trace move begins over the record at `p` (R70). -/
def State.traceBack (w : Walk) (p : Position) (d : Point) (s : State) : State :=
  { s with
    walk := some { w with done := w.done + 1, want := none }
    run := { s.run with ordinal := s.run.ordinal - 1, resume := some p, chain := some p }
    frame := s.frame.beginMove s.config .trace (d.scale (-2)) }

/-- A forward trace move begins over the record at `p`; waiting heads rejoin (R71, R148). -/
def State.traceForward (w : Walk) (p : Position) (d : Point) (s : State) : State :=
  let s1 :=
    { s with
      walk := some { w with done := w.done + 1, want := none }
      run := { s.run with ordinal := satOrdinal (s.run.ordinal + 1), resume := some (p.next s.len),
                          chain := some p }
      frame := s.frame.beginMove s.config .trace (d.scale 2) }
  s1.rejoin

/-- The walk stands at a new position; a forward walk moves the resume point there (R71). -/
def State.walkTo (w : Walk) (p : Position) (s : State) : State :=
  match w.dir with
  | .backward => s
  | .forward => { s with run := { s.run with resume := some p } }

/-- The walk goes on: with `none` it makes the test before a step, with a position it examines the record
there. It stops at a trace move in flight, at a record it has to read, or at its end (R68 to R71). The
first argument bounds the records examined between two bursts (log 25). -/
def State.walkOn : Nat → Option Position → State → State
  | 0, _, s => s.endWalk
  | fuel + 1, none, s =>
    match s.walk, s.run.resume with
    | some w, some r =>
      if s.walkFinished w then s.endWalk
      else
        match w.dir with
        | .forward => State.walkOn fuel (some r) s
        | .backward =>
          match r.prev s.len with
          | none => s.endWalk
          | some p => State.walkOn fuel (some p) s
    | _, _ => s.endWalk
  | fuel + 1, some p, s =>
    match s.walk with
    | none => s.endWalk
    | some w =>
      match w.record p with
      | none => { s with walk := some { w with want := some p }, feed := { s.feed with fetch := p } }
      | some r =>
        match (match w.dir with
               | .backward => foundBack s.len p r
               | .forward => foundForward s.len p r) with
        | .nothing => s.endWalk
        | .again q => State.walkOn fuel (some q) (s.walkTo w q)
        | .move d =>
          let s1 := match w.dir with
            | .backward => s.traceBack w p d
            | .forward => s.traceForward w p d
          if s1.frame.state.isMoving then s1 else State.walkOn fuel none s1

/-- The bound of `walkOn`: 8 records a burst, each passed at most 16 times, at two calls each (log 25). -/
def walkFuel : Nat := 300

/-- A walk is accepted; the fetch position is the resume point, and then each record it has to read (R58, R68,
log 32). -/
def State.beginWalk (dir : WalkDir) (count : Nat) (s : State) : State :=
  State.walkOn walkFuel none
    { s with
      run := { s.run with state := .backing }
      feed := { activity := .walking, blocked := false, fetch := s.run.resume.getD s.feed.fetch }
      walk := some { dir := dir, count := count, done := 0, held := none, want := none } }

/-- The records of a walk's burst arrive (R68). -/
def State.walkRead (first : Nat) (words : List Word) (s : State) : State :=
  match s.walk with
  | none => s
  | some w =>
    match w.want with
    | none => s
    | some p =>
      State.walkOn walkFuel (some p)
        { s with walk := some { w with held := some { design := p.inner.design, first := first, records := words },
                                       want := none } }

/-- A stop cuts a walk short: after the trace move in flight, or at once between moves (R72, R160,
R161). -/
def State.cutWalk (reason : StopReason) (s : State) : State :=
  let s1 := { s with run := { s.run with pendingStop := true, reason := reason } }
  if s.frame.state.isMoving then s1 else s1.endWalk

/-- A trace move is complete (R70 to R72). -/
def State.traceComplete (s : State) : State :=
  if s.run.pendingStop then s.endWalk else State.walkOn walkFuel none s

end Sys2Proof.Machine
end

