-- ==== Sys2Proof/Machine/FrameCommands.lean ====
section
/-! DEFINITION. HOME and FRAME_MOVE, and the events of the frame (chapter 5). -/

namespace Sys2Proof.Machine

/-! ## HOME (R79, R80) -/

/-- The checks of HOME (R79). -/
def State.homeChecks (s : State) : List (Bool × Status) :=
  [(!s.runExists, .wrongState),
   (!s.haltLine, .haltActive),
   (!s.frame.state.isHoming && !s.frame.state.isMoving, .wrongState),
   (s.atTdc, .notAtTdc)]

/-- An axis as homing begins, with its allowance for the field bounds `lo` and `hi` (R77, R80, log 42). -/
def HomeAxis.begin (cfg : Configuration) (lo hi : Int) : HomeAxis :=
  { found := false, pulses := 0, time := cfg.homingTime lo hi }

/-- Homing begins: each axis is stepped in its negative direction (R79, R80). No switch level is held, so both axes
begin not found, and a switch active already is shown by HOME_SWITCH_ACTIVE right behind HOME (log 39). -/
def FrameUnit.beginHoming (cfg : Configuration) (f : FrameUnit) : FrameUnit :=
  { f with
    state := .homing (.begin cfg cfg.fieldXlo cfg.fieldXhi) (.begin cfg cfg.fieldYlo cfg.fieldYhi)
    homing := .none, dirX := .negative, dirY := .negative }

/-- HOME (R79). -/
def performHome (p : List Byte) (s : State) : State :=
  s.noArgument 0x30 p fun s =>
    s.checked 0x30 s.homeChecks fun s => { s with frame := s.frame.beginHoming s.config }.reply 0x30 .ok .empty

/-- HOME, 0x30 (R79). -/
def execHome (p : List Byte) (s : State) : Outcome := .next (s.takeFrame (.home p) (performHome p))

/-- The axis's home switch is found active (R80). -/
def HomeAxis.find (a : HomeAxis) : HomeAxis := { a with found := true }

/-- Homing ends when both axes have found their switches (R80). -/
def FrameUnit.homeProgress (cfg : Configuration) (x y : HomeAxis) (f : FrameUnit) : FrameUnit :=
  if x.found && y.found then { f with state := .known ⟨2 * cfg.homeX, 2 * cfg.homeY⟩, homing := .homed }
  else { f with state := .homing x y }

/-- A home switch is active; it is read only while HOMING (R80). -/
def FrameUnit.switchActive (cfg : Configuration) (axis : Axis) (f : FrameUnit) : FrameUnit :=
  match f.state with
  | .homing x y =>
    match axis with
    | .x => f.homeProgress cfg x.find y
    | .y => f.homeProgress cfg x y.find
  | .unknown => f
  | .known _ => f
  | .moving _ => f

/-- HOME_SWITCH_ACTIVE (R80). -/
def execHomeSwitchActive (axis : Axis) (s : State) : Outcome :=
  .next { s with frame := s.frame.switchActive s.config axis }

/-- An axis issues its travel limit of pulses without finding its switch (R80). -/
def FrameUnit.travelLimit (axis : Axis) (f : FrameUnit) : FrameUnit :=
  match f.state with
  | .homing x y =>
    let found := match axis with
      | .x => x.found
      | .y => y.found
    if found then f else { f with state := .unknown, homing := .homeFailed }
  | .unknown => f
  | .known _ => f
  | .moving _ => f

/-- HOME_TRAVEL_LIMIT (R80). -/
def execHomeTravelLimit (axis : Axis) (s : State) : Outcome := .next { s with frame := s.frame.travelLimit axis }

/-! ## FRAME_MOVE (R81) -/

/-- The target of a FRAME_MOVE lies within the field (R81). -/
def State.targetFits (s : State) (d : Point) : Bool :=
  match s.frame.state with
  | .known p => s.config.inField (p.add d)
  | .unknown => false
  | .homing _ _ => false
  | .moving _ => false

/-- The checks of FRAME_MOVE (R81). -/
def State.frameMoveChecks (s : State) (d : Point) : List (Bool × Status) :=
  [(!s.runExists, .wrongState),
   (!s.haltLine, .haltActive),
   (decide (s.frame.state ≠ .unknown) && !s.frame.state.isHoming, .notHomed),
   (!s.frame.state.isMoving, .wrongState),
   (s.atTdc, .notAtTdc),
   (s.targetFits d, .field)]

/-- FRAME_MOVE (R81). -/
def performFrameMove (p : List Byte) (s : State) : State :=
  match p with
  | [x0, x1, y0, y1] =>
    let d : Point := Point.suToSteps ⟨(half x0 x1).toInt, (half y0 y1).toInt⟩
    s.checked 0x31 (s.frameMoveChecks d) fun s => (s.beginMove .host d).reply 0x31 .ok .empty
  | _ => s.refuse 0x31 .badArgument

/-- FRAME_MOVE, 0x31 (R81). -/
def execFrameMove (p : List Byte) (s : State) : Outcome := .next (s.takeFrame (.frameMove p) (performFrameMove p))

/-! ## MOVE_COMPLETE (R76) -/

/-- The stationary move of the record begun is complete (R96, R106). -/
def State.stationaryComplete (s : State) : State :=
  match s.shaft.active with
  | none => s
  | some a =>
    if a.kind = .jump then { s with shaft := { s.shaft with active := none } }
    else if s.shaft.stopReq = .quick then
      { s with shaft := { s.shaft with active := some { a with awaiting := false }, pendingFlag := true } }
    else s.penetrationRevolution a.kind

/-- The block that began the move is told of its completion (R76). -/
def State.moveReported (kind : MoveKind) (s : State) : State :=
  match kind with
  | .sewing => s.whenStill
  | .stationary => s.stationaryComplete.whenStill
  | .trace => s.traceComplete
  | .residual => s.whenStill
  | .host => s

/-- MOVE_COMPLETE (R76). -/
def execMoveComplete (s : State) : Outcome :=
  match s.frame.state with
  | .moving m => .next ({ s with frame := s.frame.complete s.config }.moveReported m.kind).arbitrate
  | .unknown => .next s
  | .homing _ _ => .next s
  | .known _ => .next s

end Sys2Proof.Machine
end

