-- ==== Sys2Proof/Machine/NeedleCommands.lean ====
section
/-! DEFINITION. The requests on the needle table, SELECT_NEEDLE, and the events of the carriage
(chapter 7). -/

namespace Sys2Proof.Machine

/-! ## ASSIGN and CLEAR_NEEDLE (R114, R115) -/

/-- A run exists and sews with this needle (R114, R115). -/
def State.needleInUse (s : State) (n : Needle) : Bool := s.runExists && decide (s.run.needle = some n)

/-- Needle `n`'s thread replaced. -/
def State.setThread (n : Needle) (t : Option Thread) (s : State) : State :=
  let e := s.needles.get n
  { s with needles := s.needles.set n { e with thread := t } }

/-- ASSIGN for a needle in range (R114). -/
def State.assignFor (n : Needle) (code mask : Half) (rpm : Nat) (s : State) : State :=
  let ceiling := s.config.clampSpeed rpm
  s.checked 0x40 [(!s.needleInUse n, .inUse)] fun s =>
    (s.setThread n (some { code := code, mask := mask, ceiling := ceiling })).reply 0x40 .ok (.speed ceiling)

/-- ASSIGN (R114). -/
def performAssign (p : List Byte) (s : State) : State :=
  match p with
  | [b, c0, c1, m0, m1, v0, v1] =>
    match needleOf s.config b with
    | none => s.refuse 0x40 .badArgument
    | some n => s.assignFor n (half c0 c1) (half m0 m1) (half v0 v1).toNat
  | _ => s.refuse 0x40 .badArgument

/-- ASSIGN, 0x40 (R114). -/
def execAssign (p : List Byte) (s : State) : Outcome := .next (s.takeFrame (.assign p) (performAssign p))

/-- CLEAR_NEEDLE for a needle in range (R115). -/
def State.clearNeedleFor (n : Needle) (s : State) : State :=
  s.checked 0x41 [(!s.needleInUse n, .inUse)] fun s => (s.setThread n none).reply 0x41 .ok .empty

/-- CLEAR_NEEDLE (R115). -/
def performClearNeedle (p : List Byte) (s : State) : State :=
  match p with
  | [b] =>
    match needleOf s.config b with
    | none => s.refuse 0x41 .badArgument
    | some n => s.clearNeedleFor n
  | _ => s.refuse 0x41 .badArgument

/-- CLEAR_NEEDLE, 0x41 (R115). -/
def execClearNeedle (p : List Byte) (s : State) : Outcome := .next (s.takeFrame (.clearNeedle p) (performClearNeedle p))

/-! ## SPOOL (R116) -/

/-- A per-head needle state changed by the operator; the THREAD_BREAK causes are tested when it is a change
(R116, R149, R151). -/
def State.setNeedleState (n : Needle) (h : Head) (v : NeedleState) (s : State) : State :=
  if s.needleState n h = v then s
  else
    let e := s.needles.get n
    ({ s with needles := s.needles.set n { e with perHead := e.perHead.set h v } }).testThreadBreaks

/-- SPOOL of READY where only MEND may return the state (R116). -/
def State.needsMend (s : State) (n : Needle) (h : Head) (v : NeedleState) : Bool :=
  decide (v = .ready) && decide (s.run.needle = some n) && decide (s.needleState n h = .broken)

/-- SPOOL for a head, needle and state in range (R116). -/
def State.spoolFor (h : Head) (n : Needle) (v : NeedleState) (s : State) : State :=
  s.checked 0x42 [(!s.needsMend n h v, .wrongState)] fun s =>
    (s.setNeedleState n h v).reply 0x42 .ok (.needleState v)

/-- SPOOL (R116). -/
def performSpool (p : List Byte) (s : State) : State :=
  match p with
  | [hb, nb, vb] =>
    match headOf s.config hb, needleOf s.config nb, spoolStateOf vb with
    | some h, some n, some v => s.spoolFor h n v
    | _, _, _ => s.refuse 0x42 .badArgument
  | _ => s.refuse 0x42 .badArgument

/-- SPOOL, 0x42 (R116). -/
def execSpool (p : List Byte) (s : State) : Outcome := .next (s.takeFrame (.spool p) (performSpool p))

/-! ## SELECT_NEEDLE (R129, R130) -/

/-- The run is IDLE or STOPPED (R129, R134). -/
def RunState.idleOrStopped : RunState → Bool
  | .idle => true
  | .stopped => true
  | .running => false
  | .changing => false
  | .stopping => false
  | .backing => false
  | .halted => false

/-- The checks of SELECT_NEEDLE behind the needle number's (R129). -/
def State.selectChecks (s : State) : List (Bool × Status) :=
  [(s.run.state.idleOrStopped, .wrongState),
   (!s.haltLine, .haltActive),
   (s.shaft.atRest && decide (s.shaft.command = 0), .wrongState),
   (decide (s.carriage.state = .idle), .wrongState)]

/-- The carriage moves to a needle by request; one it stands at already completes at once (R129). -/
def State.moveCarriageTo (n : Needle) (s : State) : State :=
  if needleAt s.carriage.code = some n then s.carriageDone n else { s with carriage := s.carriage.beginMove n }

/-- SELECT_NEEDLE for a needle in range (R129). -/
def State.selectFor (n : Needle) (s : State) : State :=
  s.checked 0x33 s.selectChecks fun s => (s.moveCarriageTo n).reply 0x33 .ok .empty

/-- SELECT_NEEDLE (R129). -/
def performSelectNeedle (p : List Byte) (s : State) : State :=
  match p with
  | [b] =>
    match needleOf s.config b with
    | none => s.refuse 0x33 .badArgument
    | some n => s.selectFor n
  | _ => s.refuse 0x33 .badArgument

/-- SELECT_NEEDLE, 0x33 (R129). -/
def execSelectNeedle (p : List Byte) (s : State) : Outcome :=
  .next (s.takeFrame (.selectNeedle p) (performSelectNeedle p))

/-! ## The events of the carriage (R121) -/

/-- CARRIAGE_CODE_CHANGE (R120, R121). -/
def execCarriageCodeChange (code : Fin 16) (s : State) : Outcome :=
  if code = s.carriage.code then .next s else .next (s.codeChange code).settle

/-- CARRIAGE_STEP_TIMEOUT (R121). -/
def execCarriageStepTimeout (s : State) : Outcome := .next s.stepTimeout

/-- CARRIAGE_SETTLE_END (R121). -/
def execCarriageSettleEnd (s : State) : Outcome :=
  match s.carriage.state with
  | .settling _ => .next s.settleEnd.settle
  | .idle => .next s
  | .stepping _ _ => .next s

end Sys2Proof.Machine
end

