-- ==== Sys2Proof/Machine/HeadCommands.lean ====
section
/-! DEFINITION. HEAD_ENABLE, MEND and BOBBIN_CHANGED, and the thread-travel sensor (chapter 8). -/

namespace Sys2Proof.Machine

/-! ## HEAD_ENABLE (R134) -/

/-- The checks of HEAD_ENABLE (R134). -/
def State.headEnableChecks (s : State) (mask : Half) : List (Bool × Status) :=
  [(decide (mask &&& ~~~ s.config.headMask = 0), .badArgument),
   (s.run.state.idleOrStopped, .wrongState),
   (!s.shaft.pendingFlag, .wrongState)]

/-- A head that becomes OFF: its latch goes off at once (R134, log 36). -/
def HeadRecord.toOff (r : HeadRecord) : HeadRecord :=
  { r with state := .off, balance := 0, grace := 0, looseQuiet := none, latch := false }

/-- Head `h` by its old state and its new bit (R134); a head disabled while the shaft turns is log 36. -/
def State.enableHead (mask : Half) (h : Head) (s : State) : State :=
  let r := s.heads.get h
  if mask.getLsbD h.val then
    if r.state = .off then s.setHead h { r with state := .idle } else s
  else if r.state = .off then s
  else (s.setHead h r.toOff).clearCause (.threadLoose h)

/-- The enable mask is set (R134, R151). -/
def State.setEnable (mask : Half) (s : State) : State :=
  (allHeads.foldl (fun t h => State.enableHead mask h t) { s with enable := mask }).testThreadBreaks

/-- HEAD_ENABLE (R134). -/
def performHeadEnable (p : List Byte) (s : State) : State :=
  match p with
  | [m0, m1] =>
    let mask := half m0 m1
    s.checked 0x44 (s.headEnableChecks mask) fun s => (s.setEnable mask).reply 0x44 .ok (.mask mask)
  | _ => s.refuse 0x44 .badArgument

/-- HEAD_ENABLE, 0x44 (R134). -/
def execHeadEnable (p : List Byte) (s : State) : Outcome := .next (s.takeFrame (.headEnable p) (performHeadEnable p))

/-! ## MEND and BOBBIN_CHANGED (R149, R150) -/

/-- MEND for a head in range (R149). -/
def State.mendFor (h : Head) (s : State) : State :=
  match s.run.needle with
  | none => s.refuse 0x43 .wrongState
  | some n =>
    s.checked 0x43 [(decide ((s.heads.get h).meter < s.config.bobbinSu), .bobbinSpent)] fun s =>
      (s.setNeedleState n h .ready).reply 0x43 .ok (.headState (s.heads.get h).state)

/-- MEND (R149). -/
def performMend (p : List Byte) (s : State) : State :=
  match p with
  | [b] =>
    match headOf s.config b with
    | none => s.refuse 0x43 .badArgument
    | some h => s.mendFor h
  | _ => s.refuse 0x43 .badArgument

/-- MEND, 0x43 (R149). -/
def execMend (p : List Byte) (s : State) : Outcome := .next (s.takeFrame (.mend p) (performMend p))

/-- A full bobbin is fitted to head `h` (R150). -/
def State.changeBobbin (h : Head) (s : State) : State :=
  (s.setHead h { s.heads.get h with meter := 0 }).clearCause (.bobbinLow h)

/-- BOBBIN_CHANGED (R150). -/
def performBobbinChanged (p : List Byte) (s : State) : State :=
  match p with
  | [b] =>
    match headOf s.config b with
    | none => s.refuse 0x45 .badArgument
    | some h => (s.changeBobbin h).reply 0x45 .ok .empty
  | _ => s.refuse 0x45 .badArgument

/-- BOBBIN_CHANGED, 0x45 (R150). -/
def execBobbinChanged (p : List Byte) (s : State) : Outcome :=
  .next (s.takeFrame (.bobbinChanged p) (performBobbinChanged p))

/-! ## The thread-travel sensor (R139) -/

/-- THREAD_PULSE (R139): only a SEWING head's pulse counts. -/
def execThreadPulse (h : Head) (s : State) : Outcome :=
  let r := s.heads.get h
  if r.state = .sewing then
    .next (s.setHead h { r with balance := pulseBalance r.balance s.config.pulseLength })
  else .next s

end Sys2Proof.Machine
end

