-- ==== Sys2Proof/Machine/LinkCommands.lean ====
section
/-! DEFINITION. The link interface's own commands: receiving, BAD_FRAME, UNKNOWN_COMMAND, a reply that
waits, the status requests, CONFIGURE and RESET (chapter 11). -/

namespace Sys2Proof.Machine

/-! ## Receiving and answering (R190 to R193) -/

/-- FRAME_ASSEMBLED (R190): the check byte arrives in CHECK, and the frame is complete. -/
def execFrameAssembled (check : Byte) (s : State) : Outcome :=
  match s.link.asm with
  | .check _ _ => .next { s with link := s.link.byteArrives check }
  | .hunting => .next s
  | .length => .next s
  | .body _ _ => .next s

/-- FRAME_GAP_TIMEOUT (R190): the frame being assembled is abandoned with no reply. -/
def execFrameGapTimeout (s : State) : Outcome := .next { s with link := { s.link with asm := .hunting } }

/-- BYTE_ARRIVES (R190, R191). -/
def execByteArrives (byte : Byte) (s : State) : Outcome := .next { s with link := s.link.byteArrives byte }

/-- The reply to a flawed frame (R191, R192). -/
def flawReply (flaw : FrameFlaw) (s : State) : State :=
  match flaw with
  | .overrun code => s.refuse (code.getD 0) .overrun
  | .badCheck first => s.refuse first .badFrame

/-- BAD_FRAME (R192): a flawed frame is taken for processing. -/
def execBadFrame (flaw : FrameFlaw) (s : State) : Outcome := .next (s.takeFrame (.badFrame flaw) (flawReply flaw))

/-- UNKNOWN_COMMAND (R192); a code of Table 11-2 is none (log 3). -/
def execUnknownCommand (code : Byte) (p : List Byte) (s : State) : Outcome :=
  if requestCodes.contains code then .next s
  else .next (s.takeFrame (.unknownCommand code p) (State.refuse code .unknownCommand))

/-- The transmitter sends bytes until the waiting reply has room, and it is placed (R193, log 20). -/
def Link.placeWaiting (l : Link) : Link :=
  match l.waiting with
  | none => l
  | some r => (l.sendBytes (l.txUsed + r.size - Config.fifoBytes)).place r

/-- REPLY_PLACED (R193). -/
def execReplyPlaced (s : State) : Outcome := .next { s with link := s.link.placeWaiting }

/-! ## The status requests (R195 to R197, R200) -/

/-- IDENTIFY (R197). -/
def performIdentify (p : List Byte) (s : State) : State :=
  s.noArgument 0x01 p fun s =>
    s.reply 0x01 .ok (.identity Config.partCode Config.revision Config.storeRecords 12 15 s.link.cause)

/-- IDENTIFY, 0x01 (R197). -/
def execIdentify (p : List Byte) (s : State) : Outcome := .next (s.takeFrame (.identify p) (performIdentify p))

/-- The open load as STATUS reports it (R195). -/
def State.loadReport (s : State) : Option (Design × Nat) :=
  match s.load with
  | none => none
  | some c =>
    match s.designs.get c.design with
    | .loading _ cursor => some (c.design, cursor)
    | .empty => none
    | .ready _ _ => none

/-- The current needle as a request reports it, 0 when absent (R195, R196). -/
def State.needleReport (s : State) : Nat :=
  match s.run.needle with
  | none => 0
  | some n => needleNumber n

/-- The items of STATUS (R154, R195). -/
def State.statusReport (s : State) : StatusReport where
  runChange := s.link.runChange
  attention := s.attention
  runState := s.run.state
  reason := s.run.reason
  result := s.run.result
  blockEnd := s.run.blockEnd
  pendingStop := s.run.pendingStop
  ordinal := s.run.ordinal
  frontier := s.run.frontier
  blockStart := s.run.blockStart
  resume := s.run.resume.map Position.report
  lastTrace := s.run.lastTrace
  speed := s.shaft.command
  hostCap := s.shaft.hostCap
  shaftState := s.shaft.state
  angle := s.shaft.angle
  atRest := s.shaft.atRest
  atTdc := s.atTdc
  recordPending := s.shaft.pendingFlag
  frameState := s.frame.state
  position := s.frame.state.position?
  homing := s.frame.homing
  residual := s.frame.residual
  overruns := s.frame.overruns
  code := s.carriage.code
  carriage := s.carriage.state
  needle := s.needleReport
  heads := s.heads.map (·.state)
  load := s.loadReport

/-- STATUS: the reply is composed, and then the run-change flag clears (R194, R195). -/
def performStatus (p : List Byte) (s : State) : State :=
  s.noArgument 0x02 p fun s =>
    let s1 := s.reply 0x02 .ok (.status s.statusReport)
    { s1 with link := { s1.link with runChange := false } }

/-- STATUS, 0x02 (R195). -/
def execStatus (p : List Byte) (s : State) : Outcome := .next (s.takeFrame (.status p) (performStatus p))

/-- The one ordinal of a head (R196). -/
def HeadState.ordinal : HeadState → Nat
  | .waiting resumeAt => resumeAt
  | .broken mend => mend
  | .off => 0
  | .idle => 0
  | .sewing => 0

/-- What HEAD_STATUS reports of a head (R196). -/
def HeadRecord.report (r : HeadRecord) : HeadReport :=
  { state := r.state, ordinal := r.state.ordinal, balance := r.balance, grace := r.grace,
    looseQuiet := r.looseQuiet.getD 0, meter := r.meter, latch := r.latch, trimmer := r.trimmer }

/-- HEAD_STATUS (R196). -/
def performHeadStatus (p : List Byte) (s : State) : State :=
  s.noArgument 0x03 p fun s =>
    s.reply 0x03 .ok (.heads s.enable ((s.heads.items.take s.config.headsInstalled).map HeadRecord.report))

/-- HEAD_STATUS, 0x03 (R196). -/
def execHeadStatus (p : List Byte) (s : State) : Outcome := .next (s.takeFrame (.headStatus p) (performHeadStatus p))

/-- What NEEDLE_STATUS reports of a needle (R196). -/
def NeedleEntry.report (e : NeedleEntry) : NeedleReport :=
  match e.thread with
  | none => { valid := false, code := 0, mask := 0, ceiling := 0, perHead := e.perHead }
  | some t => { valid := true, code := t.code, mask := t.mask, ceiling := t.ceiling, perHead := e.perHead }

/-- NEEDLE_STATUS (R196). -/
def performNeedleStatus (p : List Byte) (s : State) : State :=
  s.noArgument 0x04 p fun s =>
    s.reply 0x04 .ok
      (.needles s.needleReport ((s.needles.items.take s.config.needlesInstalled).map NeedleEntry.report))

/-- NEEDLE_STATUS, 0x04 (R196). -/
def execNeedleStatus (p : List Byte) (s : State) : Outcome :=
  .next (s.takeFrame (.needleStatus p) (performNeedleStatus p))

/-- READ_CONFIG (R200). -/
def performReadConfig (p : List Byte) (s : State) : State :=
  s.noArgument 0x05 p fun s => s.reply 0x05 .ok (.config s.config)

/-- READ_CONFIG, 0x05 (R200). -/
def execReadConfig (p : List Byte) (s : State) : Outcome := .next (s.takeFrame (.readConfig p) (performReadConfig p))

/-! ## CONFIGURE (R198, R199) -/

/-- The checks of CONFIGURE on the machine's state (R198). -/
def State.configureChecks (s : State) : List (Bool × Status) :=
  [(!s.runExists, .wrongState),
   (s.load.isNone, .loadActive),
   (!s.frame.state.isMoving && !s.frame.state.isHoming && decide (s.carriage.state = .idle) &&
      decide (s.shaft.state = .still), .wrongState)]

/-- The frame when the field changes: a KNOWN position outside it becomes absent (R75, R199). -/
def FrameUnit.refield (cfg : Configuration) (f : FrameUnit) : FrameUnit :=
  match f.state with
  | .known p => if cfg.inField p then f else { f with state := .unknown }
  | .unknown => f
  | .homing _ _ => f
  | .moving _ => f

/-- A valid entry's ceiling clamped into the range of speeds (R117, R199). -/
def NeedleEntry.reclamp (cfg : Configuration) (e : NeedleEntry) : NeedleEntry :=
  { e with thread := e.thread.map fun t => { t with ceiling := cfg.clampSpeed t.ceiling } }

/-- A head above heads_installed becomes OFF (R133, R199). -/
def HeadRecord.refit (cfg : Configuration) (h : Head) (r : HeadRecord) : HeadRecord :=
  if headNumber h ≤ cfg.headsInstalled then r else { r with state := .off }

/-- A new configuration in force, with its effects on the blocks (R199). -/
def State.configure (cfg : Configuration) (s : State) : State :=
  { s with
    config := cfg
    frame := s.frame.refield cfg
    shaft := { s.shaft with hostCap := cfg.clampSpeed s.shaft.hostCap }
    needles := s.needles.map (NeedleEntry.reclamp cfg)
    run := { s.run with needle := s.run.needle.filter cfg.installed }
    heads := s.heads.mapIdx (HeadRecord.refit cfg)
    enable := s.enable &&& cfg.headMask }

/-- The record of a CONFIGURE, tested field by field (R198). -/
def State.configureFields (values : List Int) (s : State) : State :=
  match firstBadField values with
  | some i => s.reply 0x06 .badArgument (.fieldIndex i)
  | none => (s.configure (configurationOf values)).reply 0x06 .ok .empty

/-- CONFIGURE (R198). -/
def performConfigure (p : List Byte) (s : State) : State :=
  match fieldValues fieldShapes p with
  | none => s.refuse 0x06 .badArgument
  | some values => s.checked 0x06 s.configureChecks (State.configureFields values)

/-- CONFIGURE, 0x06 (R198). -/
def execConfigure (p : List Byte) (s : State) : Outcome := .next (s.takeFrame (.configure p) (performConfigure p))

/-- RESET, its first part (R201): the reply is placed, and no further frame is taken. -/
def performReset (p : List Byte) (s : State) : State :=
  s.noArgument 0x0F p fun s =>
    let s1 := s.reply 0x0F .ok .empty
    { s1 with link := { s1.link with resetting := true } }

/-- RESET, 0x0F (R201). -/
def execReset (p : List Byte) (s : State) : Outcome := .next (s.takeFrame (.reset p) (performReset p))

end Sys2Proof.Machine
end

