-- ==== Sys2Proof/Machine/Resets.lean ====
section
/-! DEFINITION. The two cold resets and the link reset (R201, R202, and the reset tables of the
chapters). -/

namespace Sys2Proof.Machine

/-- The shaft after a cold reset: the encoder's count and its rest are inputs and stay (R111). -/
def Shaft.cold (sh : Shaft) : Shaft :=
  { State.reset.shaft with
    angle := sh.angle, crossed := sh.crossed, atRest := sh.atRest
    state := if sh.atRest then .still else .coasting }

/-- The state after a cold reset with a given store; the levels of the inputs stay as they are (log 6). -/
def State.cold (cause : ResetCause) (store : List Host.Cell) (free : Nat) (s : State) : State :=
  { State.reset with
    link := { State.reset.link with cause := cause }
    store := store
    shaft := s.shaft.cold
    carriage := { State.reset.carriage with code := s.carriage.code, last := needleAt s.carriage.code }
    run := { State.reset.run with needle := needleAt s.carriage.code }
    haltLine := s.haltLine, stopLine := s.stopLine, free := free, pending := s.pending }

/-- POWER_ON (R202): the store holds what the memory comes up with (R40, log 7). -/
def execPowerOn (s : State) : Outcome := .next (s.cold .power [] s.free)

/-- The store after a RESET pin: the places of an abandoned loader burst hold free bytes (R39, R49,
log 8). -/
def State.storeAfterPin (s : State) : List Host.Cell × Nat :=
  match s.burst with
  | none => (s.store, s.free)
  | some b =>
    match b.claimant with
    | .loader => (scramblePlaces s.store s.free b.base b.first b.count, s.free + 4 * b.count)
    | .feed => (s.store, s.free)
    | .readback => (s.store, s.free)

/-- RESET_PIN (R202): the store keeps what was written. -/
def execResetPin (s : State) : Outcome := .next (s.cold .pin s.storeAfterPin.1 s.storeAfterPin.2)

/-! ## LINK_RESET (R201) -/

/-- A LOADING descriptor becomes EMPTY (R21, R39). -/
def Descriptor.linkReset : Descriptor → Descriptor
  | .empty => .empty
  | .loading _ _ => .empty
  | .ready b n => .ready b n

/-- The frame motion unit after a link reset: the motion stops as at an emergency halt, and its remainder
is discarded (R90). -/
def FrameUnit.linkReset (f : FrameUnit) : FrameUnit := { f.halt with residual := none, overruns := 0 }

/-- The shaft after a link reset (R108, R111). -/
def Shaft.linkReset (cfg : Configuration) (sh : Shaft) : Shaft :=
  { sh.release with vPrev := cfg.speedMin, capEff := cfg.speedMax, hostCap := cfg.speedMax, stopReq := .none }

/-- The carriage after a link reset (R121, R132). -/
def Carriage.linkReset (c : Carriage) : Carriage := { c with state := .idle, last := (needleAt c.code).or c.last }

/-- A head after a link reset (R137, R152, R153). -/
def HeadRecord.linkReset (r : HeadRecord) : HeadRecord := r.endRun

/-- The run record after a link reset (R73, R164, R175). -/
def Run.linkReset (needle : Option Needle) (r : Run) : Run :=
  { state := .idle, reason := r.reason, result := if r.state = .idle then r.result else .reset,
    needle := needle, blockEnd := false, pendingStop := false, chain := none, visited := [],
    ordinal := 0, frontier := 0, blockStart := 0, resume := none, lastTrace := 0 }

/-- The link interface after a link reset (R201). -/
def Link.linkReset (runDiscarded : Bool) (l : Link) : Link :=
  { asm := .hunting, rx := [], tx := [], txSent := 0, waiting := none, readBack := none,
    resetting := false, runChange := l.runChange || runDiscarded, cause := .link }

/-- A burst in flight goes on, and its result is discarded (R36, R48, R50). -/
def Burst.linkReset (b : Burst) : Burst := { b with stale := true }

/-- The link reset takes effect (R201); it replaces the fetch position as a cold reset does (R58, log 32). -/
def State.linkReset (s : State) : State :=
  { s with
    link := s.link.linkReset s.runExists
    designs := s.designs.map Descriptor.linkReset
    load := none
    burst := s.burst.map Burst.linkReset
    lastGranted := .readback
    feed := State.reset.feed
    walk := none
    queue := []
    frame := s.frame.linkReset
    shaft := s.shaft.linkReset s.config
    carriage := s.carriage.linkReset
    heads := s.heads.map HeadRecord.linkReset
    conditions := []
    changes := 0
    run := s.run.linkReset s.codeNeedle }.latchesOffAtRest

/-- LINK_RESET (R201): the last byte of the RESET reply has been sent, and the reset takes effect (log 20). -/
def execLinkReset (s : State) : Outcome := .next s.linkReset

end Sys2Proof.Machine
end

