-- ==== Sys2Proof/Machine/RunCommands.lean ====
section
/-! DEFINITION. The requests of run control, the stop-button line and the safety halt line (chapter 9), and
SET_SPEED (R103). -/

namespace Sys2Proof.Machine

/-! ## START (R157, R158) -/

/-- The descriptor is READY and STARTABLE (R157). -/
def Descriptor.isStartable : Descriptor → Bool
  | .ready b _ => b.attrs.startable
  | .empty => false
  | .loading _ _ => false

/-- A box in su placed at a frame position lies within the field (R157). -/
def Configuration.boxInField (cfg : Configuration) (p : Point) (b : Box) : Bool :=
  cfg.inX (p.x + 2 * b.xMin) && cfg.inX (p.x + 2 * b.xMax) && cfg.inY (p.y + 2 * b.yMin) && cfg.inY (p.y + 2 * b.yMax)

/-- The frame position plus the design's extent lies within the field (R157). -/
def State.extentFits (s : State) (d : Design) : Bool :=
  match s.frame.state.position?, (s.designs.get d).body? with
  | some p, some b => s.config.boxInField p b.extent
  | _, _ => false

/-- The checks of START behind the design number's (R157). -/
def State.startChecks (s : State) (d : Design) : List (Bool × Status) :=
  [(!s.runExists, .wrongState),
   (!s.haltLine, .haltActive),
   ((s.designs.get d).isReady, .notFound),
   ((s.designs.get d).isStartable, .badType),
   (s.frame.state.isKnown, .notHomed),
   (s.carriagePosition.isSome, .carriageLost),
   (s.anyEnabled, .noHeads),
   (s.atTdc, .notAtTdc),
   (s.extentFits d, .field)]

/-- The run that START begins, before its heads are placed (R158). -/
def Run.begin (d : Design) (needle : Option Needle) (r : Run) : Run :=
  { r with state := .running, reason := .none, result := .none, needle := needle, blockEnd := false,
           chain := some (Position.main d 0), visited := [d], ordinal := 0, frontier := 0, blockStart := 0 }

/-- The run is set up (R158). -/
def State.beginRun (d : Design) (s : State) : State :=
  { s with
    run := s.run.begin d s.carriagePosition
    shaft := { s.shaft with vPrev := s.config.speedMin }
    feed := { activity := .filling, blocked := false, fetch := Position.main d 0 } }.placeHeads
      (some (Position.main d 0))

/-- START for a design number in range (R157, R158). -/
def State.startFor (d : Design) (s : State) : State :=
  s.checked 0x20 (s.startChecks d) fun s => ((s.beginRun d).reply 0x20 .ok .empty).settle

/-- START (R157). -/
def performStart (p : List Byte) (s : State) : State := s.oneDesign 0x20 p State.startFor

/-- START, 0x20 (R157). -/
def execStart (p : List Byte) (s : State) : Outcome := .next (s.takeFrame (.start p) (performStart p))

/-! ## RESUME (R162, R163) -/

/-- The run is STOPPED or HALTED. -/
def RunState.held : RunState → Bool
  | .stopped => true
  | .halted => true
  | .idle => false
  | .running => false
  | .changing => false
  | .stopping => false
  | .backing => false

/-- The checks of RESUME (R162). -/
def State.resumeChecks (s : State) : List (Bool × Status) :=
  [(s.run.state.held, .wrongState),
   (!s.haltLine, .haltActive),
   (s.frame.state.isKnown, .notHomed),
   (s.carriagePosition.isSome && decide (s.carriagePosition = s.run.needle), .carriageLost),
   (s.anyEnabled, .noHeads),
   (s.atTdc, .notAtTdc)]

/-- The residual move of a halted run begins (R89). -/
def State.beginResidual (s : State) : State :=
  match s.frame.residual with
  | none => s
  | some r => s.beginMove .residual r

/-- The held run goes on (R163). The resume point of a held run is always present (R51); without one the fetch
position would stay (log 32). -/
def State.resumeRun (s : State) : State :=
  ({ s with
    run := { s.run with state := .running, reason := .none, resume := none }
    shaft := { s.shaft with vPrev := s.config.speedMin }
    feed := { activity := .filling, blocked := false, fetch := s.run.resume.getD s.feed.fetch } }.placeHeads
      s.run.resume).beginResidual

/-- RESUME (R162). -/
def performResume (p : List Byte) (s : State) : State :=
  s.noArgument 0x21 p fun s =>
    s.checked 0x21 s.resumeChecks fun s => (s.resumeRun.reply 0x21 .ok .empty).settle

/-- RESUME, 0x21 (R162). -/
def execResume (p : List Byte) (s : State) : Outcome := .next (s.takeFrame (.resume p) (performResume p))

/-! ## STOP and the stop line (R160) -/

/-- A controlled stop by the host or the stop line, by the run state (R160). -/
def State.stopRun (reason : StopReason) (s : State) : State :=
  match s.run.state with
  | .running => s.requestStop reason
  | .stopping => s.requestStop reason
  | .changing => s.requestStop reason
  | .backing => if s.run.pendingStop then s else s.cutWalk reason
  | .idle => s
  | .stopped => s
  | .halted => s

/-- STOP (R160). -/
def performStop (p : List Byte) (s : State) : State :=
  s.noArgument 0x22 p fun s =>
    s.checked 0x22 [(s.runExists, .wrongState)] fun s =>
      ((s.stopRun .hostStop).reply 0x22 .ok .empty).settle

/-- STOP, 0x22 (R160). -/
def execStop (p : List Byte) (s : State) : Outcome := .next (s.takeFrame (.stop p) (performStop p))

/-- STOP_LINE_ACTIVE (R160); a line held active does not act again. -/
def execStopLineActive (s : State) : Outcome :=
  if s.stopLine then .next s else .next ({ s with stopLine := true }.stopRun .stopLine).settle

/-- STOP_LINE_INACTIVE (R160): the stop-button input reads inactive again, and the next activation acts. -/
def execStopLineInactive (s : State) : Outcome := .next { s with stopLine := false }

/-! ## QUICK_STOP (R161) -/

/-- The shaft brakes, and is STILL at once if it has not left rest (R106, log 16). -/
def State.brake (s : State) : State :=
  if s.shaft.state = .turning ∨ s.shaft.state = .parking then
    let s1 := { s with shaft := { s.shaft with state := .braking, command := 0 } }
    if s.shaft.atRest then s1.comeToRest else s1
  else s

/-- A quick stop of a sewing run (R106). -/
def State.quickStopSewing (s : State) : State :=
  if s.shaft.stopReq = .quick then s
  else
    { s with
      shaft := { s.shaft with stopReq := .quick }
      run := { s.run with state := .stopping, pendingStop := true, reason := .quickStop } }.brake

/-- A quick stop of a colour change (R126). -/
def State.quickStopChange (s : State) : State :=
  let s1 := { s with run := { s.run with pendingStop := true, reason := .quickStop } }
  match s.carriage.state with
  | .stepping _ _ => s1
  | .settling _ => s1.abandonChange
  | .idle => s1.abandonChange

/-- A quick stop, by the run state (R161). -/
def State.quickStopRun (s : State) : State :=
  match s.run.state with
  | .running => s.quickStopSewing
  | .stopping => s.quickStopSewing
  | .changing => s.quickStopChange
  | .backing => s.cutWalk .quickStop
  | .idle => s
  | .stopped => s
  | .halted => s

/-- QUICK_STOP (R161). -/
def performQuickStop (p : List Byte) (s : State) : State :=
  s.noArgument 0x23 p fun s =>
    s.checked 0x23 [(s.runExists, .wrongState)] fun s => (s.quickStopRun.reply 0x23 .ok .empty).settle

/-- QUICK_STOP, 0x23 (R161). -/
def execQuickStop (p : List Byte) (s : State) : Outcome := .next (s.takeFrame (.quickStop p) (performQuickStop p))

/-! ## ABORT (R166) -/

/-- ABORT (R166). -/
def performAbort (p : List Byte) (s : State) : State :=
  s.noArgument 0x24 p fun s =>
    s.checked 0x24 [(s.run.state.held, .wrongState)] fun s =>
      (s.endRun .aborted s.run.reason).reply 0x24 .ok .empty

/-- ABORT, 0x24 (R166). -/
def execAbort (p : List Byte) (s : State) : Outcome := .next (s.takeFrame (.abort p) (performAbort p))

/-! ## BACK and FORWARD (R167) -/

/-- The checks of BACK and FORWARD (R167). -/
def State.walkChecks (s : State) (n : Nat) : List (Bool × Status) :=
  [(decide (1 ≤ n ∧ n ≤ 4095), .badArgument),
   (decide (s.run.state = .stopped), .wrongState),
   (!s.haltLine, .haltActive),
   (s.frame.state.isKnown, .notHomed),
   (s.atTdc, .notAtTdc)]

/-- BACK or FORWARD (R167, R168). -/
def State.walkRequest (code : Byte) (dir : WalkDir) (p : List Byte) (s : State) : State :=
  match p with
  | [n0, n1] =>
    let n := (half n0 n1).toNat
    s.checked code (s.walkChecks n) fun s => ((s.beginWalk dir n).reply code .ok .empty).arbitrate
  | _ => s.refuse code .badArgument

/-- BACK (R167). -/
def performBack (p : List Byte) (s : State) : State := s.walkRequest 0x25 .backward p

/-- BACK, 0x25 (R167). -/
def execBack (p : List Byte) (s : State) : Outcome := .next (s.takeFrame (.back p) (performBack p))

/-- FORWARD (R167). -/
def performForward (p : List Byte) (s : State) : State := s.walkRequest 0x26 .forward p

/-- FORWARD, 0x26 (R167). -/
def execForward (p : List Byte) (s : State) : Outcome := .next (s.takeFrame (.forward p) (performForward p))

/-! ## SET_SPEED (R103) -/

/-- SET_SPEED (R103). -/
def performSetSpeed (p : List Byte) (s : State) : State :=
  match p with
  | [v0, v1] =>
    let cap := s.config.clampSpeed (half v0 v1).toNat
    { s with shaft := { s.shaft with hostCap := cap } }.reply 0x27 .ok (.speed cap)
  | _ => s.refuse 0x27 .badArgument

/-- SET_SPEED, 0x27 (R103). -/
def execSetSpeed (p : List Byte) (s : State) : Outcome := .next (s.takeFrame (.setSpeed p) (performSetSpeed p))

/-! ## The safety halt line (R169) -/

/-- HALT_LINE_ACTIVE (R169, R170). -/
def execHaltLineActive (s : State) : Outcome :=
  if s.haltLine then .next s else .next ({ s with haltLine := true }.emergencyHalt .haltLine)

/-- HALT_LINE_INACTIVE (R169): it changes nothing in the run but what R96 waits for. -/
def execHaltLineInactive (s : State) : Outcome :=
  if s.haltLine then .next { s with haltLine := false }.settle else .next s

end Sys2Proof.Machine
end

