-- ==== Sys2Proof/Machine/ShaftCommands.lean ====
section
/-! DEFINITION. SHAFT_TO_TDC, the encoder's events, rest and stall (chapter 6). -/

namespace Sys2Proof.Machine

/-! ## SHAFT_TO_TDC (R110) -/

/-- The run states that admit SHAFT_TO_TDC (R110). -/
def RunState.admitsTdc : RunState → Bool
  | .idle => true
  | .stopped => true
  | .halted => true
  | .running => false
  | .changing => false
  | .stopping => false
  | .backing => false

/-- The checks of SHAFT_TO_TDC (R110). -/
def State.tdcChecks (s : State) : List (Bool × Status) :=
  [(s.run.state.admitsTdc, .wrongState),
   (!s.haltLine, .haltActive),
   (decide (s.carriage.state = .idle), .wrongState),
   (!s.frame.state.isMoving && !s.frame.state.isHoming, .wrongState),
   (decide (s.shaft.state = .still), .wrongState)]

/-- The shaft is driven to TDC, unless it is there (R110). -/
def State.toTdc (s : State) : State :=
  if s.atTdc then s
  else
    { s with shaft := { s.shaft with state := .positioning, command := s.config.speedMin, enable := true } }.bandCheck

/-- SHAFT_TO_TDC (R110). -/
def performShaftToTdc (p : List Byte) (s : State) : State :=
  s.noArgument 0x32 p fun s =>
    s.checked 0x32 s.tdcChecks fun s => s.toTdc.reply 0x32 .ok .empty

/-- SHAFT_TO_TDC, 0x32 (R110). -/
def execShaftToTdc (p : List Byte) (s : State) : Outcome := .next (s.takeFrame (.shaftToTdc p) (performShaftToTdc p))

/-! ## The crossings (R93, R94, R97) -/

/-- The SHAFT_STALL cause clears at a crossing made with a speed commanded (R93, R109). -/
def State.clearStall (s : State) : State := if 0 < s.shaft.command then s.clearCause .shaftStall else s

/-- A controlled stop is pending with the previous speed at or below speed_min (R94). -/
def State.stopsHere (s : State) : Bool :=
  decide (s.shaft.stopReq = .controlled) && decide (s.shaft.vPrev ≤ s.config.speedMin)

/-- The next record is begun at the crossing, or the shaft parks (R94, R102). -/
def State.beginOrPark (s : State) : State :=
  match s.queue with
  | [] => s.park
  | e :: rest => if s.sewing && !e.isStop && !s.stopsHere then s.beginPoint e rest else s.park

/-- The work of a window-open crossing (R93, R94, R107). -/
def State.windowOpen (s : State) : State :=
  let s1 := s.clearStall
  match s.shaft.state with
  | .turning => s1.completeRecord.beginOrPark
  | .braking => s1.completeRecord
  | .positioning => s1.completeRecord.bandCheck
  | .parking => s1
  | .coasting => s1
  | .still => s1

/-- A sewing move is still in flight: an overrun is counted and a backoff requested (R85, R97). -/
def State.overrun (s : State) : State :=
  if s.frame.sewingInFlight then
    { s with
      frame := { s.frame with overruns := min Config.halfMax (s.frame.overruns + 1) }
      shaft := { s.shaft with backoff := true } }
  else s

/-- The trimmers of a TRIM fire in TURNING and in POSITIONING (R97, R137). -/
def State.fireTrimmers (s : State) : State :=
  match s.shaft.active with
  | none => s
  | some a =>
    if a.kind = .trim ∧ (s.shaft.state = .turning ∨ s.shaft.state = .positioning) then s.trimmersOn a.pen else s

/-- The work of a window-close crossing (R97). -/
def State.windowClose (s : State) : State := s.overrun.fireTrimmers

/-! ## The encoder (R91, R92) -/

/-- The shaft's count changes: it is no longer at rest, a carriage step ends at a fault, and the command
becomes 0 within the TDC band (R92, R121), before the crossing that the same change may make (log 35). -/
def State.turnTo (count : BitVec 10) (crossed : Bool) (s : State) : State :=
  let left := s.shaft.atRest
  let s1 := { s with shaft := { s.shaft with angle := count, atRest := false, crossed := crossed } }
  (if left then s1.shaftMoved else s1).bandCheck

/-- A count as the encoder gives it. -/
def countOf (n : Nat) : BitVec 10 := BitVec.ofNat 10 n

/-- ENCODER_COUNT_CHANGE (R91): the forward change onto Wo or Wc makes that crossing (log 4). -/
def execEncoderCountChange (count : BitVec 10) (s : State) : Outcome :=
  if count = s.shaft.angle then .next s
  else
    let forward := decide (count = s.shaft.angle + 1)
    if forward && decide (count = countOf s.config.windowOpen) then .next (s.turnTo count true).windowOpen.arbitrate
    else if forward && decide (count = countOf s.config.windowClose) then .next (s.turnTo count true).windowClose
    else .next (s.turnTo count false)

/-- The crossing of angle `a` is the one that the latest count change made already (log 4). -/
def State.crossedAlready (a : BitVec 10) (s : State) : Bool := s.shaft.crossed && decide (s.shaft.angle = a)

/-- WINDOW_OPEN_CROSSING (R93). -/
def execWindowOpenCrossing (s : State) : Outcome :=
  let a := countOf s.config.windowOpen
  if s.crossedAlready a then .next { s with shaft := { s.shaft with crossed := false } }
  else .next (s.turnTo a false).windowOpen.arbitrate

/-- WINDOW_CLOSE_CROSSING (R97). -/
def execWindowCloseCrossing (s : State) : Outcome :=
  let a := countOf s.config.windowClose
  if s.crossedAlready a then .next { s with shaft := { s.shaft with crossed := false } }
  else .next (s.turnTo a false).windowClose

/-! ## Rest and stall (R92, R109) -/

/-- SHAFT_AT_REST (R92). -/
def execShaftAtRest (s : State) : Outcome := if s.shaft.atRest then .next s else .next s.comeToRest.settle

/-- SHAFT_STALL (R109). -/
def execShaftStall (s : State) : Outcome :=
  if s.supervised then
    .next ((s.openCause .shaftStall none (.shaft s.shaft.state) none).emergencyHalt .shaftStall)
  else .next s

end Sys2Proof.Machine
end

