-- ==== Sys2Proof/Machine/StoreEvents.lean ====
section
/-! DEFINITION. BURST_COMPLETE: the result of a burst reaches its claimant, and the store is granted again
(chapter 3). -/

namespace Sys2Proof.Machine

/-- A LOADER burst completes (R28, R36, R41). -/
def State.loaderBurst (b : Burst) (s : State) : State :=
  let s1 := { s with store := writeRegion s.store b.base b.first b.records }
  if b.stale then s1 else { s1 with load := s.load.map (LoadContext.credit b.count) }

/-- The records of a READBACK burst join the reply, which is placed after the last of them (R38). -/
def State.readbackBurst (words : List Word) (s : State) : State :=
  match s.link.readBack with
  | none => s
  | some r =>
    let got := r.got ++ words
    if got.length < r.count then { s with link := { s.link with readBack := some { r with got := got } } }
    else { s with link := { s.link with readBack := none } }.reply 0x14 .ok (.records r.index r.count got)

/-- The legal records that words are; none when one of them is not legal (R3). -/
def recordsOf : List Word → Option (List Record)
  | [] => some []
  | w :: ws =>
    match decodeRecord w with
    | none => none
    | some r => (recordsOf ws).map (r :: ·)

/-- A FEED burst that is not discarded completes (R41, R60, R68). -/
def State.feedBurst (b : Burst) (words : List Word) (records : List Record) (s : State) : State :=
  match s.feed.activity with
  | .filling => s.feedRecords records
  | .walking => s.walkRead b.first words
  | .idle => s
  | .finished => s

/-- The result of a burst goes to its claimant (R41, R48); a feed that reads a word that is no legal
record stops the machine (log 12). -/
def State.burstResult (b : Burst) (s : State) : Outcome :=
  match b.claimant with
  | .loader => .next (s.loaderBurst b)
  | .readback =>
    if b.stale then .next s else .next (s.readbackBurst (readRegion s.store b.base b.first b.count))
  | .feed =>
    if b.stale then .next s
    else
      let words := readRegion s.store b.base b.first b.count
      match recordsOf words with
      | none => .fault .illegalRecord
      | some records => .next (s.feedBurst b words records)

/-- What follows the result: the head of the queue, then the next grant (R43, R67, R95). -/
def afterBurst (o : Outcome) : Outcome :=
  match o with
  | .next s => .next s.settle
  | .fault f => .fault f
  | .refused r => .refused r

/-- BURST_COMPLETE (R41). -/
def execBurstComplete (s : State) : Outcome :=
  match s.burst with
  | none => .next s
  | some b =>
    if regionInside b.base b.first b.count then afterBurst ({ s with burst := none }.burstResult b)
    else .fault .storeOutside

end Sys2Proof.Machine
end

