-- ==== Sys2Proof/Machine/Dispatch.lean ====
section
/-! DEFINITION. The meaning of each command, one arm per constructor. -/

namespace Sys2Proof.Machine

def exec (i : Instr) (s : State) : Host.Outcome State Fault Refusal :=
  match i with
  | .powerOn => Sys2Proof.Machine.execPowerOn s
  | .resetPin => Sys2Proof.Machine.execResetPin s
  | .linkReset => Sys2Proof.Machine.execLinkReset s
  | .frameAssembled check => Sys2Proof.Machine.execFrameAssembled check s
  | .frameGapTimeout => Sys2Proof.Machine.execFrameGapTimeout s
  | .badFrame flaw => Sys2Proof.Machine.execBadFrame flaw s
  | .unknownCommand code payload => Sys2Proof.Machine.execUnknownCommand code payload s
  | .replyPlaced => Sys2Proof.Machine.execReplyPlaced s
  | .identify payload => Sys2Proof.Machine.execIdentify payload s
  | .status payload => Sys2Proof.Machine.execStatus payload s
  | .headStatus payload => Sys2Proof.Machine.execHeadStatus payload s
  | .needleStatus payload => Sys2Proof.Machine.execNeedleStatus payload s
  | .readConfig payload => Sys2Proof.Machine.execReadConfig payload s
  | .configure payload => Sys2Proof.Machine.execConfigure payload s
  | .reset payload => Sys2Proof.Machine.execReset payload s
  | .loadOpen payload => Sys2Proof.Machine.execLoadOpen payload s
  | .loadData payload => Sys2Proof.Machine.execLoadData payload s
  | .loadClose payload => Sys2Proof.Machine.execLoadClose payload s
  | .loadCancel payload => Sys2Proof.Machine.execLoadCancel payload s
  | .readRecords payload => Sys2Proof.Machine.execReadRecords payload s
  | .retire payload => Sys2Proof.Machine.execRetire payload s
  | .lock payload => Sys2Proof.Machine.execLock payload s
  | .unlock payload => Sys2Proof.Machine.execUnlock payload s
  | .describe payload => Sys2Proof.Machine.execDescribe payload s
  | .listDesigns payload => Sys2Proof.Machine.execListDesigns payload s
  | .start payload => Sys2Proof.Machine.execStart payload s
  | .resume payload => Sys2Proof.Machine.execResume payload s
  | .stop payload => Sys2Proof.Machine.execStop payload s
  | .quickStop payload => Sys2Proof.Machine.execQuickStop payload s
  | .abort payload => Sys2Proof.Machine.execAbort payload s
  | .back payload => Sys2Proof.Machine.execBack payload s
  | .forward payload => Sys2Proof.Machine.execForward payload s
  | .setSpeed payload => Sys2Proof.Machine.execSetSpeed payload s
  | .home payload => Sys2Proof.Machine.execHome payload s
  | .frameMove payload => Sys2Proof.Machine.execFrameMove payload s
  | .shaftToTdc payload => Sys2Proof.Machine.execShaftToTdc payload s
  | .selectNeedle payload => Sys2Proof.Machine.execSelectNeedle payload s
  | .assign payload => Sys2Proof.Machine.execAssign payload s
  | .clearNeedle payload => Sys2Proof.Machine.execClearNeedle payload s
  | .spool payload => Sys2Proof.Machine.execSpool payload s
  | .mend payload => Sys2Proof.Machine.execMend payload s
  | .headEnable payload => Sys2Proof.Machine.execHeadEnable payload s
  | .bobbinChanged payload => Sys2Proof.Machine.execBobbinChanged payload s
  | .nextCondition payload => Sys2Proof.Machine.execNextCondition payload s
  | .listConditions payload => Sys2Proof.Machine.execListConditions payload s
  | .ackCondition payload => Sys2Proof.Machine.execAckCondition payload s
  | .burstComplete => Sys2Proof.Machine.execBurstComplete s
  | .encoderCountChange count => Sys2Proof.Machine.execEncoderCountChange count s
  | .windowOpenCrossing => Sys2Proof.Machine.execWindowOpenCrossing s
  | .windowCloseCrossing => Sys2Proof.Machine.execWindowCloseCrossing s
  | .shaftAtRest => Sys2Proof.Machine.execShaftAtRest s
  | .moveComplete => Sys2Proof.Machine.execMoveComplete s
  | .homeSwitchActive axis => Sys2Proof.Machine.execHomeSwitchActive axis s
  | .homeTravelLimit axis => Sys2Proof.Machine.execHomeTravelLimit axis s
  | .carriageCodeChange code => Sys2Proof.Machine.execCarriageCodeChange code s
  | .carriageStepTimeout => Sys2Proof.Machine.execCarriageStepTimeout s
  | .carriageSettleEnd => Sys2Proof.Machine.execCarriageSettleEnd s
  | .threadPulse head => Sys2Proof.Machine.execThreadPulse head s
  | .stopLineActive => Sys2Proof.Machine.execStopLineActive s
  | .haltLineActive => Sys2Proof.Machine.execHaltLineActive s
  | .haltLineInactive => Sys2Proof.Machine.execHaltLineInactive s
  | .shaftStall => Sys2Proof.Machine.execShaftStall s
  | .byteArrives byte => Sys2Proof.Machine.execByteArrives byte s
  | .stopLineInactive => Sys2Proof.Machine.execStopLineInactive s

end Sys2Proof.Machine
end

