-- ==== Sys2Proof/Machine/Tick.lean ====
section
/-! DEFINITION. What passes while no command waits (log 2). -/

namespace Sys2Proof.Machine

/-- One pulse of the motion in flight is issued, and the transmitter sends a byte (R76, R80, R193). -/
def State.drift (s : State) : State :=
  { s with frame := s.frame.pulse s.config, link := s.link.sendByte }

/-- The link interface takes the oldest complete frame when it may (R192). -/
def State.serveLink (s : State) : Outcome :=
  if s.link.ready then
    match s.link.rx with
    | [] => .next s
    | f :: _ => exec f.command s
  else .next s

/-- The step on an empty queue (log 2). -/
def State.tick (s : State) : Outcome := s.drift.serveLink

end Sys2Proof.Machine
end

