-- ==== Sys2Proof/Safety.lean ====
section
/-! DEFINITION. What the statements speak of: when a request is taken at once, what a grant may add, and
the properties that every state of a sound run has. -/

namespace Sys2Proof.Machine

/-- The link interface takes a request that comes now at once: it is ready, and no older frame waits
(R192, R193). -/
def State.served (s : State) : Prop := s.link.ready = true ∧ s.link.rx = []

/-- The first of the checks, in their order, that does not hold gives the refusal `st` (R1). -/
def refusesWith (checks : List (Prop × Status)) (st : Status) : Prop :=
  ∃ before c after, checks = before ++ (c, st) :: after ∧ (∀ x ∈ before, x.1) ∧ ¬c

/-- `t` is `s` after the grant decision of R43: `s` itself with a burst in flight or no claim waiting, and
otherwise `s` with the burst of the winner. -/
def State.upToGrant (s t : State) : Prop := t = s.arbitrate

/-- The burst in flight once the feed is IDLE: one of the feed's is then stale (R48, R58, log 30). -/
def State.idledBurst (s : State) : Option Burst :=
  s.burst.map fun b => if b.claimant = .feed then { b with stale := true } else b

/-- The store of `t` is what the grant decision of R43 makes of the burst in flight `burst` and of the last granted
claimant of `s`. The claims are those that the command leaves, the head of the queue dealt with (log 9). -/
def State.granted (burst : Option Burst) (s t : State) : Prop :=
  t = State.arbitrate { t with burst := burst, lastGranted := s.lastGranted }

/-- Nothing waits for the head of the queue: the shaft is not STILL, or no run sews and no record is begun (R95,
R106, R107). -/
def State.quiet (s : State) : Prop :=
  s.shaft.state ≠ .still ∨ s.sewing = false ∧ s.shaft.active = none

/-- `t` is what the begin point of the non-stop entry `e` makes of `s` (R94, R96, R98, R101): the entry is taken,
P and F rise for a movement entry, waiting heads rejoin, the latches are set, the shaft turns at V0, the
sewing move begins, and the store is granted (log 9). -/
def State.begun (e : Entry) (rest : List Entry) (s t : State) : Prop :=
  let p := if e.isMovement then min (s.run.ordinal + 1) 4294967295 else s.run.ordinal
  t.queue = rest ∧
  t.run = { s.run with chain := some e.pos, ordinal := p,
                       frontier := if e.isMovement then max s.run.frontier p else s.run.frontier } ∧
  t.shaft = { s.shaft with
              state := .turning, enable := true, command := s.planSpeed e rest, vPrev := s.planSpeed e rest
              capEff := s.effectiveCap, backoff := false, active := t.shaft.active } ∧
  (∃ a, t.shaft.active = some a ∧ a.kind = e.revKind ∧ a.awaiting = false ∧
    ∀ h, a.pen.get h = (t.heads.get h).latch) ∧
  (∀ h, (t.heads.get h).latch = (e.revKind.penetrates && decide ((t.heads.get h).state = .sewing)) ∧
    (t.heads.get h).state = match (s.heads.get h).state with
      | .waiting r => if e.isMovement = true ∧ r ≤ p then .sewing else .waiting r
      | x => x) ∧
  t.frame = (if e.isMovement then s.frame.beginSewing s.config e.disp else s.frame) ∧
  t.config = s.config ∧ t.store = s.store ∧ t.designs = s.designs ∧ t.needles = s.needles ∧
  t.carriage = s.carriage ∧ State.granted s.burst s t

/-- The store has its canonical form (log 7). -/
def State.storeCanonical (s : State) : Prop := Memory.wf s.store = true

/-- No two entries have the same key, and the change count keeps its range (R176, R178). -/
def State.conditionsSound (s : State) : Prop :=
  (s.conditions.map (·.key)).Nodup ∧ s.changes < 65536 ∧ ∀ c ∈ s.conditions, c.repeats ≤ 255

/-- The shaft does not turn under the drive: its command is 0 in these states (R92, R101). -/
def ShaftState.undriven : ShaftState → Bool
  | .still => true
  | .braking => true
  | .coasting => true
  | .turning => false
  | .parking => false
  | .positioning => false

/-- The commanded speed is 0 or within speed_min..speed_max, it is 0 where the shaft is not driven, and the
previous speed lies in the range while a revolution is in progress (R92, R98, R101). -/
def State.speedSound (s : State) : Prop :=
  s.config.inRange = true ∧
  (s.shaft.command = 0 ∨ (s.config.speedMin ≤ s.shaft.command ∧ s.shaft.command ≤ s.config.speedMax)) ∧
  (s.shaft.state.undriven = true → s.shaft.command = 0) ∧
  (s.shaft.state = .turning → s.config.speedMin ≤ s.shaft.vPrev ∧ s.shaft.vPrev ≤ s.config.speedMax)

/-- A held run keeps nothing queued and the feed idle, and a run that does not exist has no path fields
(R51, R58, R64). -/
def State.heldSound (s : State) : Prop :=
  (s.run.state = .idle ∨ s.run.state = .stopped ∨ s.run.state = .halted →
    s.queue = [] ∧ s.feed.activity = .idle) ∧
  (s.run.state = .backing → s.queue = [] ∧ s.feed.activity = .walking) ∧
  (s.run.state = .idle → s.run.chain = none ∧ s.run.visited = [] ∧ s.run.resume = none)

/-- The record that a walk waits to read lies within its clamp (R70, R71). -/
def State.walkWithin (s : State) (w : Walk) : Prop :=
  match w.dir with
  | .backward => s.run.blockStart < s.run.ordinal
  | .forward => s.run.ordinal < s.run.frontier

/-- The block start is no greater than the path ordinal, and that no greater than the frontier, which stays
in its range (R55); a walk is made only in BACKING (R68). -/
def State.ordinalsSound (s : State) : Prop :=
  s.run.blockStart ≤ s.run.ordinal ∧ s.run.ordinal ≤ s.run.frontier ∧ s.run.frontier ≤ Config.ordinalMax ∧
  ∀ w, s.walk = some w → s.run.state = .backing ∧ (w.want ≠ none → s.walkWithin w)

/-- While the halt line is active no speed is commanded, nothing moves, and no run goes on (R108, R169). -/
def State.haltHolds (s : State) : Prop :=
  s.haltLine = true →
    (s.run.state = .idle ∨ s.run.state = .halted) ∧ s.shaft.command = 0 ∧
    (s.shaft.state = .still ∨ s.shaft.state = .coasting) ∧ s.frame.state.isMoving = false ∧
    s.frame.state.isHoming = false ∧ s.carriage.state = .idle

/-- A state that the statements about a run rely on. -/
def State.sound (s : State) : Prop :=
  s.storeCanonical ∧ s.conditionsSound ∧ s.speedSound ∧ s.heldSound ∧ s.ordinalsSound ∧ s.haltHolds

end Sys2Proof.Machine
end

