-- ==== Sys2Proof/WellFormed.lean ====
section
/-! DEFINITION. What a well-formed command is: a request's payload fits a frame of at most 200 body
bytes (R188), and UNKNOWN_COMMAND carries a code that Table 11-2 does not give (R192). -/

namespace Sys2Proof

/-- A request body is the command code and up to 199 payload bytes (R188). -/
def payloadFits (p : List Byte) : Bool := decide (p.length ≤ 199)

/-- The checks on a command's operands; the other operands' types admit nothing ill-formed. -/
def Instr.wellFormed (i : Instr) : Bool :=
  match requestBody i with
  | none => true
  | some (code, p) =>
    match i with
    | .unknownCommand _ _ => payloadFits p && !requestCodes.contains code
    | _ => payloadFits p

end Sys2Proof
end

