-- ==== Sys2Proof/Certificates/Slice0/Obligations.lean ====
section
/-! DEFINITION. The statements for the provers. Each docstring names the rules it formalises. -/

open Sys2Proof Sys2Proof.Machine

/-! ## The step -/

/-- A step takes the command at the front of the queue and does it with the queue's rest. On an empty queue it issues
one pulse of the motion in flight but its last, sends one byte of the transmit FIFO, and takes the oldest complete
frame when the link interface is ready: that so much passes in a step is the model's choice, log 2 (R76, R80, R192,
R193). -/
def Obligations.StepRunsFrontCommand : Prop :=
  (∀ (c : Instr) (rest : List Instr) (s : State), s.pending = c :: rest →
    step s = exec c { s with pending := rest }) ∧
  (∀ s : State, s.pending = [] →
    let pulsed : Int → Int → HomeAxis → HomeAxis := fun lo hi a =>
      let span := (2 * (hi - lo)).toNat
      if a.found then a else { a with pulses := min (span + span / 10 - 1) (a.pulses + 1) }
    let frame : FrameUnit := match s.frame.state with
      | .moving m => { s.frame with
          state := .moving { m with issued := min (max m.disp.x.natAbs m.disp.y.natAbs - 1) (m.issued + 1) } }
      | .homing x y => { s.frame with
          state := .homing (pulsed s.config.fieldXlo s.config.fieldXhi x)
            (pulsed s.config.fieldYlo s.config.fieldYhi y) }
      | .unknown => s.frame
      | .known _ => s.frame
    let link : Link := match s.link.tx with
      | [] => s.link
      | r :: rest =>
        if r.size ≤ s.link.txSent + 1 then { s.link with tx := rest, txSent := 0 }
        else { s.link with txSent := s.link.txSent + 1 }
    let passed : State := { s with frame := frame, link := link }
    (s.link.ready = false ∨ s.link.rx = [] → step s = .next passed) ∧
    (∀ f rest, s.link.ready = true → s.link.rx = f :: rest → step s = exec f.command passed))

/-! ## Encodings -/

/-- Every legal record is read back from its word; a word that is a legal record is the word of that record, so
that no spare bit of it is set and its fields lie in their ranges (R2, R3). -/
def Obligations.RecordRoundTrip : Prop :=
  (∀ r : Record, r.legal = true → decodeRecord (encodeRecord r) = some r) ∧
  (∀ (w : Word) (r : Record), decodeRecord w = some r → r.legal = true ∧ encodeRecord r = w)

/-- A configuration in range passes its own 52 bytes: they give its field values, which pass every check and
make it again (R198, R200, Table 11-4). -/
def Obligations.ConfigurationRoundTrip : Prop :=
  ∀ c : Configuration, c.inRange = true →
    c.bytes.length = 52 ∧ fieldValues fieldShapes c.bytes = some c.values ∧ firstBadField c.values = none ∧
      configurationOf c.values = c

/-- The bytes of a well-formed request's frame, arriving in HUNTING with room for them, leave one complete
frame in the receive FIFO whose taking is that request (R188 to R192). -/
def Obligations.RequestFrameRoundTrip : Prop :=
  ∀ (i : Instr) (code : Byte) (p : List Byte) (l : Link),
    requestBody i = some (code, p) → i.wellFormed = true → l.asm = .hunting → l.rxUsed + p.length + 3 ≤ 256 →
      ∃ f : RxFrame, f.command = i ∧
        (frameOf (code :: p)).foldl (fun l b => l.byteArrives b) l = { l with rx := l.rx ++ [f] }

/-- The check byte is the value that makes the sum 0; every reply has it, the marker taking no part; a
received frame whose sum is not 0 is taken as one with a bad check (R189). -/
def Obligations.CheckByteRule : Prop :=
  (∀ (bs : List Byte) (v : Byte), bs.foldl (· + ·) 0 + v = 0 ↔ v = checkByte bs) ∧
  (∀ r : Reply, r.bytes.head? = some Config.marker ∧ (r.bytes.drop 1).foldl (· + ·) 0 = 0) ∧
  (∀ f : RxFrame, f.overrun = false →
    (f.bytes ++ [f.check.getD 0]).foldl (· + ·) (BitVec.ofNat 8 f.length) ≠ 0 →
      f.command = .badFrame (.badCheck (f.bytes.headD 0)))

/-! ## The link interface -/

/-- What an arriving byte does in each state of the frame assembler; in CHECK the check byte completes the
frame, and a gap abandons the frame being assembled (R190, R191). -/
def Obligations.BytesReceived : Prop :=
  (∀ (b : Byte) (s : State),
    let kept : Option Byte := if s.link.rxUsed < 256 then some b else none
    exec (.byteArrives b) s = .next { s with link :=
      match s.link.asm with
      | .hunting => if b = 0x7E then { s.link with asm := .length } else s.link
      | .length =>
        if b.toNat = 0 ∨ 200 < b.toNat ∨ 256 ≤ s.link.rxUsed then { s.link with asm := .hunting }
        else { s.link with asm := .body b.toNat [] }
      | .body n got =>
        if got.length + 1 < n then { s.link with asm := .body n (got ++ [kept]) }
        else { s.link with asm := .check n (got ++ [kept]) }
      | .check n got =>
        { s.link with asm := .hunting, rx := s.link.rx ++ [{ length := n, body := got, check := kept }] } }) ∧
  (∀ (b : Byte) (n : Nat) (got : List (Option Byte)) (s : State), s.link.asm = .check n got →
    exec (.frameAssembled b) s = exec (.byteArrives b) s ∧ ∃ t, exec (.frameAssembled b) s = .next t) ∧
  (∀ s : State, exec .frameGapTimeout s = .next { s with link := { s.link with asm := .hunting } })

/-- A marked frame is answered OVERRUN, one with a bad check BAD_FRAME, one with a code that Table 11-2 lacks
UNKNOWN_COMMAND, and nothing outside the link interface changes (R192). -/
def Obligations.FlawedFramesAnswered : Prop :=
  ∀ s : State, s.served →
    (∀ code : Option Byte, exec (.badFrame (.overrun code)) s = .next (s.reply (code.getD 0) .overrun .empty)) ∧
    (∀ first : Byte, exec (.badFrame (.badCheck first)) s = .next (s.reply first .badFrame .empty)) ∧
    (∀ (code : Byte) (p : List Byte), code ∉ requestCodes →
      exec (.unknownCommand code p) s = .next (s.reply code .unknownCommand .empty))

/-- A reply has as many bytes as its length; it is placed whole when it has room and waits otherwise; once
room has come free the waiting reply is placed, last in the FIFO (R193). A request, and a flawed frame, is done at once
when the link interface is ready and no frame waits; out of the receive FIFO when it is the oldest frame there; and
otherwise, while a reply waits, a read-back or a reset is in progress or an older frame waits, the bytes of its frame
arrive and no work is done (R190 to R193, R201): how a request command stands for its frame is the model's choice,
log 1. -/
def Obligations.RepliesPlaced : Prop :=
  (∀ r : Reply, r.bytes.length = r.size) ∧
  (∀ (r : Reply) (l : Link),
    l.place r = if l.txUsed + r.size ≤ 256 then { l with tx := l.tx ++ [r], waiting := none }
                else { l with waiting := some r }) ∧
  (∀ (r : Reply) (s : State), s.link.waiting = some r → r.size ≤ 256 →
    (∀ x xs, s.link.tx = x :: xs → s.link.txSent < x.size) → (s.link.tx = [] → s.link.txSent = 0) →
      ∃ t, exec .replyPlaced s = .next t ∧ t = { s with link := t.link } ∧ t.link.waiting = none ∧
        t.link.tx.getLast? = some r ∧ t.link.txUsed ≤ 256) ∧
  (∀ (c : Instr) (bytes : List Byte),
    (∃ code p, requestBody c = some (code, p) ∧ bytes = frameOf (code :: p) ∧
      ∀ code p, c = .unknownCommand code p → code ∉ requestCodes) ∨
    (∃ flaw, c = .badFrame flaw ∧ bytes = []) →
      ∃ act : State → State, ∀ s : State,
        (s.link.ready = true ↔ s.link.waiting = none ∧ s.link.readBack = none ∧ s.link.resetting = false) ∧
        (s.link.ready = true → s.link.rx = [] → exec c s = .next (act s)) ∧
        (∀ f rest, s.link.ready = true → s.link.rx = f :: rest → f.command = c →
          exec c s = .next (act { s with link := { s.link with rx := rest } }) ∧
          (rest = [] → exec c s = exec c { s with link := { s.link with rx := [] } })) ∧
        (s.link.ready = false ∨ (∃ f rest, s.link.rx = f :: rest ∧ f.command ≠ c) →
          exec c s = .next { s with link := bytes.foldl (fun l b => l.byteArrives b) s.link }))

/-- IDENTIFY, HEAD_STATUS and NEEDLE_STATUS answer OK with their items and change no state; STATUS reports every
item of the machine's state, the run-change flag as it stood, and then clears that flag. The position of the
resume point is reported by frames, outermost first, with no repetition count (R52, R154, R194 to R197). -/
def Obligations.StatusRequestsAnswered : Prop :=
  ∀ s : State, s.served →
    exec (.identify []) s = .next (s.reply 0x01 .ok (.identity 1215 1 524288 12 15 s.link.cause)) ∧
    exec (.headStatus []) s = .next (s.reply 0x03 .ok
      (.heads s.enable ((s.heads.items.take s.config.headsInstalled).map HeadRecord.report))) ∧
    exec (.needleStatus []) s = .next (s.reply 0x04 .ok
      (.needles s.needleReport ((s.needles.items.take s.config.needlesInstalled).map NeedleEntry.report))) ∧
    ∃ r : StatusReport,
      exec (.status []) s =
        .next { s with link := { s.link.place ⟨0x02, .ok, .status r⟩ with runChange := false } } ∧
      r.runChange = s.link.runChange ∧
      (r.attention = true ↔ s.link.runChange = true ∨ ∃ c ∈ s.conditions, c.state ≠ .held) ∧
      r.runState = s.run.state ∧ r.reason = s.run.reason ∧ r.result = s.run.result ∧
      r.blockEnd = s.run.blockEnd ∧ r.pendingStop = s.run.pendingStop ∧ r.ordinal = s.run.ordinal ∧
      r.frontier = s.run.frontier ∧ r.blockStart = s.run.blockStart ∧ r.lastTrace = s.run.lastTrace ∧
      (s.run.resume = none → r.resume = none) ∧
      (∀ q, s.run.resume = some q →
        r.resume = some (((q.inner :: q.callers).map fun f => ⟨f.design, f.index, f.rep⟩).reverse)) ∧
      r.speed = s.shaft.command ∧ r.hostCap = s.shaft.hostCap ∧ r.shaftState = s.shaft.state ∧
      r.angle = s.shaft.angle ∧ r.atRest = s.shaft.atRest ∧
      r.atTdc = (s.shaft.atRest && inBand s.config s.shaft.angle && !s.shaft.pendingFlag) ∧
      r.recordPending = s.shaft.pendingFlag ∧ r.frameState = s.frame.state ∧
      (∀ p, s.frame.state = .known p → r.position = some p) ∧
      (∀ m, s.frame.state = .moving m → r.position = some m.position) ∧
      (s.frame.state = .unknown ∨ s.frame.state.isHoming = true → r.position = none) ∧
      r.homing = s.frame.homing ∧ r.residual = s.frame.residual ∧ r.overruns = s.frame.overruns ∧
      r.code = s.carriage.code ∧ r.carriage = s.carriage.state ∧
      (s.run.needle = none → r.needle = 0) ∧ (∀ n, s.run.needle = some n → r.needle = n.val + 1) ∧
      r.heads = s.heads.map (·.state) ∧
      (s.load = none → r.load = none) ∧
      (∀ c x cursor, s.load = some c → s.designs.get c.design = .loading x cursor →
        r.load = some (c.design, cursor))

/-- READ_CONFIG takes no argument and is not refused; its reply carries the record in force, 52 bytes; it is
the record of defaults after a cold reset and is kept through a link reset (R200). -/
def Obligations.ReadConfigRule : Prop :=
  (∀ s : State, s.served →
    exec (.readConfig []) s = .next (s.reply 0x05 .ok (.config s.config)) ∧
    (Payload.config s.config).bytes = s.config.bytes ∧ s.config.bytes.length = 52) ∧
  (∀ s t : State, exec .powerOn s = .next t ∨ exec .resetPin s = .next t → t.config = .defaults) ∧
  (∀ s t : State, exec .linkReset s = .next t → t.config = s.config)

/-- CONFIGURE: its checks in their order, the first failing field, and the record put in force in IDLE with no
load open and nothing in motion, with its effects on the frame, the caps, the ceilings, the current needle and
the heads (R198, R199, R75, R103, R117, R133). -/
def Obligations.ConfigureRule : Prop :=
  ∀ (s : State) (p : List Byte) (v : List Int), s.served → fieldValues fieldShapes p = some v →
    let still : Prop := s.frame.state.isMoving = false ∧ s.frame.state.isHoming = false ∧
      s.carriage.state = .idle ∧ s.shaft.state = .still
    (∀ st, refusesWith
        [(s.run.state = .idle, .wrongState), (s.load = none, .loadActive), (still, .wrongState)] st →
      exec (.configure p) s = .next (s.reply 0x06 st .empty)) ∧
    (s.run.state = .idle → s.load = none → still → ∀ i, firstBadField v = some i →
      exec (.configure p) s = .next (s.reply 0x06 .badArgument (.fieldIndex i))) ∧
    (s.run.state = .idle → s.load = none → still → firstBadField v = none →
      let cfg := configurationOf v
      ∃ t, exec (.configure p) s = .next t ∧
        t = { s with
              config := cfg, link := s.link.place ⟨0x06, .ok, .empty⟩, frame := t.frame, needles := t.needles,
              heads := t.heads, enable := t.enable,
              shaft := { s.shaft with hostCap := min cfg.speedMax (max cfg.speedMin s.shaft.hostCap) },
              run := { s.run with needle := t.run.needle } } ∧
        (t.frame = s.frame ∨ t.frame = { s.frame with state := .unknown }) ∧
        (t.frame.state = .unknown ↔
          s.frame.state = .unknown ∨ ∃ q, s.frame.state = .known q ∧ cfg.inField q = false) ∧
        (∀ n, t.run.needle = some n ↔ s.run.needle = some n ∧ needleNumber n ≤ cfg.needlesInstalled) ∧
        (∀ n, (t.needles.get n).perHead = (s.needles.get n).perHead ∧
          (t.needles.get n).thread = (s.needles.get n).thread.map fun x =>
            { x with ceiling := min cfg.speedMax (max cfg.speedMin x.ceiling) }) ∧
        (∀ h, t.heads.get h = if headNumber h ≤ cfg.headsInstalled then s.heads.get h
                              else { s.heads.get h with state := .off }) ∧
        (∀ i, i < 16 → t.enable.getLsbD i = (s.enable.getLsbD i && decide (i < cfg.headsInstalled))))

/-! ## Resets -/

/-- RESET places its OK at once, and the link interface then takes no further frame. The link reset stops the machine
and discards the run; it keeps the READY designs, the store, the needle table, the bobbin meters, the enable mask and
the configuration (R21, R39, R50, R73, R90, R111, R132, R153, R175, R187, R201). That LINK_RESET takes its effect in
every state, also in one in which no RESET was taken, is the model's choice, log 20 (DESIGN CHOICE), and so is the
fetch position [(0, 0, 1)] that a reset leaves, log 32 (DESIGN CHOICE); that a burst in flight is kept under the mark
stale is the model's reading, log 30 (DEDUCED). -/
def Obligations.LinkResetResult : Prop :=
  (∀ s : State, s.served →
    ∃ t, exec (.reset []) s = .next t ∧
      t = { s with link := { s.link.place ⟨0x0F, .ok, .empty⟩ with resetting := true } } ∧ t.link.ready = false) ∧
  ∀ s : State, ∃ t, exec .linkReset s = .next t ∧
    t.config = s.config ∧ t.store = s.store ∧ t.needles = s.needles ∧ t.enable = s.enable ∧ t.pending = s.pending ∧
    t.link = { asm := .hunting, rx := [], tx := [], txSent := 0, waiting := none, readBack := none,
               resetting := false, runChange := s.link.runChange || s.runExists, cause := .link } ∧
    (∀ d, t.designs.get d = match s.designs.get d with
                            | .empty => .empty
                            | .loading _ _ => .empty
                            | .ready b n => .ready b n) ∧
    t.load = none ∧ t.lastGranted = .readback ∧ t.burst = s.burst.map (fun b => { b with stale := true }) ∧
    t.feed = { activity := .idle, blocked := false, fetch := ⟨⟨0, 0, 1, 1⟩, []⟩ } ∧ t.walk = none ∧ t.queue = [] ∧
    t.frame.state.isMoving = false ∧ t.frame.state.isHoming = false ∧
    t.frame.residual = none ∧ t.frame.overruns = 0 ∧
    (s.frame.state.isHoming = true → t.frame.state = .unknown ∧ t.frame.homing = .interrupted) ∧
    (∀ m, s.frame.state = .moving m → t.frame.state = .known m.position ∧ t.frame.followOn = none) ∧
    t.shaft.state = (if s.shaft.atRest then .still else .coasting) ∧ t.shaft.command = 0 ∧ t.shaft.enable = false ∧
    t.shaft.vPrev = s.config.speedMin ∧ t.shaft.capEff = s.config.speedMax ∧ t.shaft.hostCap = s.config.speedMax ∧
    t.shaft.stopReq = .none ∧ t.shaft.backoff = false ∧ t.shaft.active = none ∧ t.shaft.pendingFlag = false ∧
    t.carriage.state = .idle ∧ t.carriage.dir = s.carriage.dir ∧
    (∀ h, (t.heads.get h).state = (if (s.heads.get h).state = .off then .off else .idle) ∧
      (t.heads.get h).balance = 0 ∧ (t.heads.get h).grace = 0 ∧ (t.heads.get h).looseQuiet = none ∧
      (t.heads.get h).meter = (s.heads.get h).meter ∧ (t.heads.get h).trimmer = false) ∧
    t.conditions = [] ∧ t.changes = 0 ∧
    t.run = { state := .idle, reason := s.run.reason,
              result := if s.run.state = .idle then s.run.result else .reset, needle := s.codeNeedle,
              blockEnd := false, pendingStop := false, chain := none, visited := [], ordinal := 0, frontier := 0,
              blockStart := 0, resume := none, lastTrace := 0 }

/-- POWER_ON and RESET_PIN give every block its cold values; the levels of the inputs stay (log 6), the shaft
coasts if it turns, the last position and the current needle follow the code. After a power-on the store lists
nothing (log 7); after the RESET pin every byte is kept but those of the places that a LOADER burst in flight was
writing, which are free (log 8). The fetch position that each leaves is the model's choice, log 32 (R39, R40, R49,
R58, R111, R132, R202). -/
def Obligations.ColdResetResult : Prop :=
  ∀ s : State,
    let cold : ResetCause → List Host.Cell → Nat → State := fun cause store free =>
      { State.reset with
        link := { State.reset.link with cause := cause }
        store := store
        shaft := { State.reset.shaft with
                   angle := s.shaft.angle, crossed := s.shaft.crossed, atRest := s.shaft.atRest
                   state := if s.shaft.atRest then .still else .coasting }
        carriage := { State.reset.carriage with code := s.carriage.code, last := needleAt s.carriage.code }
        run := { State.reset.run with needle := needleAt s.carriage.code }
        haltLine := s.haltLine, stopLine := s.stopLine, free := free, pending := s.pending }
    exec .powerOn s = .next (cold .power [] s.free) ∧
    ∃ store free, exec .resetPin s = .next (cold .pin store free) ∧
      ((∀ b, s.burst = some b → b.claimant ≠ .loader) → store = s.store) ∧
      (∀ b, s.burst = some b → b.claimant = .loader →
        ∀ a, (∀ i, i < b.count →
            a < 4 * (64 * b.base + b.first + i) ∨ 4 * (64 * b.base + b.first + i) + 4 ≤ a) →
          Memory.read store a = Memory.read s.store a)

/-- The values that the spec gives for a cold reset (R21, R39, R49, R73, R90, R111, R132, R153, R175, R187,
R202). -/
def Obligations.ResetStateValues : Prop :=
  let s := State.reset
  s.config = .defaults ∧ (∀ d, s.designs.get d = .empty) ∧ s.load = none ∧ s.burst = none ∧
  s.lastGranted = .readback ∧ s.feed.activity = .idle ∧ s.feed.blocked = false ∧ s.queue = [] ∧
  s.frame.state = .unknown ∧ s.frame.followOn = none ∧ s.frame.residual = none ∧ s.frame.homing = .none ∧
  s.frame.overruns = 0 ∧ s.frame.dirX = .inactive ∧ s.frame.dirY = .inactive ∧
  s.shaft.command = 0 ∧ s.shaft.enable = false ∧ s.shaft.vPrev = s.config.speedMin ∧
  s.shaft.capEff = s.config.speedMax ∧ s.shaft.hostCap = s.config.speedMax ∧ s.shaft.stopReq = .none ∧
  s.shaft.backoff = false ∧ s.shaft.pendingFlag = false ∧
  (∀ n, (s.needles.get n).thread = none ∧ ∀ h, (s.needles.get n).perHead.get h = .ready) ∧
  s.carriage.state = .idle ∧ s.carriage.dir = none ∧
  (∀ h, s.heads.get h = { state := .idle, balance := 0, grace := 0, looseQuiet := none, meter := 0,
                          latch := false, trimmer := false }) ∧
  s.enable = 0x0FFF ∧ s.conditions = [] ∧ s.changes = 0 ∧
  s.run.state = .idle ∧ s.run.reason = .none ∧ s.run.result = .none ∧ s.run.blockEnd = false ∧
  s.run.pendingStop = false ∧ s.run.chain = none ∧ s.run.visited = [] ∧ s.run.ordinal = 0 ∧
  s.run.frontier = 0 ∧ s.run.blockStart = 0 ∧ s.run.resume = none ∧ s.run.lastTrace = 0 ∧
  s.link.asm = .hunting ∧ s.link.rx = [] ∧ s.link.tx = [] ∧ s.link.readBack = none ∧ s.link.runChange = false ∧
  s.attention = false

/-! ## Designs, the loader and the store -/

/-- LOAD_OPEN with every check passed makes the descriptor LOADING and opens the load context; nothing else
changes but the link (R23, R24). -/
def Obligations.LoadOpenAccepted : Prop :=
  ∀ (s : State) (d : Design) (b a b0 b1 l0 l1 l2 l3 : Byte) (attrs : Attributes),
    let base := (half b0 b1).toNat
    let length := (word l0 l1 l2 l3).toNat
    s.served → designOf b = some d → s.load = none → base < 8192 → 1 ≤ length → length ≤ 262144 →
    base + (length + 63) / 64 ≤ 8192 → attributesOf a = some attrs → s.designs.get d = .empty →
    (∀ e x, (s.designs.get e).body? = some x →
      base + (length + 63) / 64 ≤ x.base ∨ x.base + (x.length + 63) / 64 ≤ base) →
      exec (.loadOpen [b, b0, b1, l0, l1, l2, l3, a]) s = .next { s with
        designs := s.designs.set d
          (.loading { attrs := attrs, base := base, length := length,
                      extent := { xMin := 0, xMax := 0, yMin := 0, yMax := 0 }, complete := true,
                      colourCount := 0, colours := [], truncated := false, sum := 0 } 0)
        load := some { design := d, position := some ⟨0, 0⟩, buffer0 := none, buffer1 := none, olderIs1 := false }
        link := s.link.place ⟨0x10, .ok, .empty⟩ }

/-- LOAD_DATA with every check passed stages the chunk whole, moves the cursor by its count and brings the
loader's values up to date; nothing else changes but the link and the store's grant decision (R25 to R28, R43). -/
def Obligations.LoadDataAccepted : Prop :=
  ∀ (s : State) (d : Design) (b n i0 i1 i2 i3 : Byte) (ws : List Word) (c : LoadContext) (x : DesignBody)
    (cursor : Nat),
    s.served → designOf b = some d → s.load = some c → c.design = d → s.designs.get d = .loading x cursor →
    n.toNat = ws.length → 1 ≤ ws.length → ws.length ≤ 32 → (word i0 i1 i2 i3).toNat = cursor →
    cursor + ws.length ≤ x.length → firstFailing d x.length cursor ws = none →
    (c.buffer0 = none ∨ c.buffer1 = none) →
      let tally := Tally.acceptAll s.designs ws { body := x, position := c.position }
      let chunk : Staging := { first := cursor, records := ws, written := 0 }
      ∃ t, exec (.loadData (b :: i0 :: i1 :: i2 :: i3 :: n :: ws.flatMap wordBytes)) s = .next t ∧
        State.upToGrant { s with
          designs := s.designs.set d (.loading tally.body (cursor + ws.length))
          load := some
            (if c.buffer0 = none then
              { c with buffer0 := some chunk, olderIs1 := c.buffer1.isSome, position := tally.position }
             else { c with buffer1 := some chunk, olderIs1 := false, position := tally.position })
          link := s.link.place ⟨0x11, .ok, .index (cursor + ws.length)⟩ } t

/-- The load sum gains both halves of every record of a chunk; tracked movement records widen the extent to each
position they reach; a CALL of a READY and COMPLETE motif adds the boxes of its first and its last repetition and
moves on by its net move, and any other CALL ends the tracking; a COLOUR record is counted, and listed while the
list has room (R15, R29, R30, R31, R32). -/
def Obligations.LoaderTally : Prop :=
  (∀ (ds : Table 32 Descriptor) (ws : List Word) (t : Tally),
    (Tally.acceptAll ds ws t).body.sum =
      (ws.map fun w => w.extractLsb' 16 16 + w.extractLsb' 0 16).foldl (· + ·) t.body.sum) ∧
  (∀ (ds : Table 32 Descriptor) (w : Word) (ws : List Word) (t : Tally),
    let u : Tally :=
      { t with body := { t.body with sum := t.body.sum + w.extractLsb' 16 16 + w.extractLsb' 0 16 } }
    let after : Tally → Prop := fun v => Tally.acceptAll ds (w :: ws) t = Tally.acceptAll ds ws v
    (∀ dx dy, decodeRecord w = some (.stitch dx dy) ∨ decodeRecord w = some (.jump dx dy) →
      after (u.move ⟨dx, dy⟩)) ∧
    (∀ motif reps, decodeRecord w = some (.call motif reps) → after (u.call (ds.get motif) reps)) ∧
    (∀ code, decodeRecord w = some (.colour code) → after (u.colour code)) ∧
    (decodeRecord w = some .trim ∨ decodeRecord w = some .pause ∨ decodeRecord w = some .endRec → after u)) ∧
  (∀ (d p : Point) (t : Tally), t.position = some p →
    (Point.fits32 ⟨p.x + d.x, p.y + d.y⟩ = true →
      (t.move d).position = some ⟨p.x + d.x, p.y + d.y⟩ ∧ (t.move d).body.complete = t.body.complete ∧
      (t.move d).body.extent =
        { xMin := min t.body.extent.xMin (p.x + d.x), xMax := max t.body.extent.xMax (p.x + d.x),
          yMin := min t.body.extent.yMin (p.y + d.y), yMax := max t.body.extent.yMax (p.y + d.y) }) ∧
    (Point.fits32 ⟨p.x + d.x, p.y + d.y⟩ = false →
      (t.move d).position = none ∧ (t.move d).body.complete = false ∧
      (t.move d).body.extent = t.body.extent)) ∧
  (∀ (p : Point) (b : DesignBody) (net : Option Point) (reps : Nat) (t : Tally), t.position = some p →
    let v := t.call (.ready b net) reps
    let untracked : Prop := v.position = none ∧ v.body = { t.body with complete := false }
    (b.complete = false ∨ net = none → untracked) ∧
    (∀ n, b.complete = true → net = some n →
      let e := b.extent
      let last : Point := ⟨p.x + (reps - 1) * n.x, p.y + (reps - 1) * n.y⟩
      let q : Point := ⟨p.x + reps * n.x, p.y + reps * n.y⟩
      let fits : Prop := ∀ c ∈ [e.xMin + p.x, e.xMax + p.x, e.yMin + p.y, e.yMax + p.y, e.xMin + last.x,
          e.xMax + last.x, e.yMin + last.y, e.yMax + last.y, q.x, q.y],
        -2147483648 ≤ c ∧ c ≤ 2147483647
      (¬fits → untracked) ∧
      (fits → v.position = some q ∧ v.body = { t.body with extent :=
        { xMin := min (min t.body.extent.xMin (e.xMin + p.x)) (e.xMin + last.x)
          xMax := max (max t.body.extent.xMax (e.xMax + p.x)) (e.xMax + last.x)
          yMin := min (min t.body.extent.yMin (e.yMin + p.y)) (e.yMin + last.y)
          yMax := max (max t.body.extent.yMax (e.yMax + p.y)) (e.yMax + last.y) } }))) ∧
  (∀ (p : Point) (reps : Nat) (t : Tally), t.position = some p →
    t.call .empty reps = { body := { t.body with complete := false }, position := none }) ∧
  (∀ (d : Point) (x : Descriptor) (reps : Nat) (t : Tally), t.position = none →
    t.move d = t ∧ t.call x reps = t) ∧
  (∀ (code : Half) (t : Tally),
    (t.body.colours.length < 32 → t.colour code = { t with body := { t.body with
      colourCount := t.body.colourCount + 1, colours := t.body.colours ++ [code] } }) ∧
    (32 ≤ t.body.colours.length → t.colour code = { t with body := { t.body with
      colourCount := t.body.colourCount + 1, truncated := true } }))

/-- LOAD_CLOSE makes the design READY when cursor and sum agree and EMPTY otherwise; LOAD_CANCEL makes it
EMPTY; each closes the context, and a burst of the loader that is in flight belongs to no load any more (R33 to R36,
R48). That such a burst is kept under the mark stale is the model's reading, log 30 (DEDUCED). -/
def Obligations.LoadEnds : Prop :=
  ∀ (s : State) (d : Design) (b s0 s1 : Byte) (c : LoadContext) (x : DesignBody) (cursor : Nat),
    s.served → designOf b = some d → s.load = some c → c.design = d → s.designs.get d = .loading x cursor →
    let ended : Descriptor → Reply → State := fun y r =>
      { s with
        designs := s.designs.set d y, load := none, link := s.link.place r
        burst := s.burst.map fun z => if z.claimant = .loader then { z with stale := true } else z }
    (c.buffer0 = none → c.buffer1 = none → cursor = x.length → half s0 s1 = x.sum →
      exec (.loadClose [b, s0, s1]) s = .next
        (ended (.ready x (if x.complete then c.position else none)) ⟨0x12, .ok, .completeness x.complete⟩)) ∧
    (c.buffer0 = none → c.buffer1 = none → cursor ≠ x.length ∨ half s0 s1 ≠ x.sum →
      exec (.loadClose [b, s0, s1]) s = .next (ended .empty ⟨0x12, .loadMismatch, .mismatch cursor x.sum⟩)) ∧
    (c.buffer0 ≠ none ∨ c.buffer1 ≠ none →
      exec (.loadClose [b, s0, s1]) s = .next (s.reply 0x12 .pending .empty)) ∧
    exec (.loadCancel [b]) s = .next (ended .empty ⟨0x13, .ok, .empty⟩)

/-- An accepted READ_RECORDS clamps its count to the design's end and waits for its records, with no reply yet, and
its claim meets the grant decision; DESCRIBE and LIST_DESIGNS report the descriptors with their in-use flags and change
no state (R16, R20, R37, R38, R43). -/
def Obligations.DesignReports : Prop :=
  (∀ (s : State) (d : Design) (b i0 i1 i2 i3 n : Byte) (x : DesignBody) (net : Option Point),
    let index := (word i0 i1 i2 i3).toNat
    s.served → designOf b = some d → s.designs.get d = .ready x net → 1 ≤ n.toNat → n.toNat ≤ 32 →
    index < x.length →
      let read : ReadBack := { design := d, index := index, count := min n.toNat (x.length - index), got := [] }
      ∃ t, exec (.readRecords [b, i0, i1, i2, i3, n]) s = .next t ∧
        State.upToGrant { s with link := { s.link with readBack := some read } } t) ∧
  ∀ s : State, s.served →
    (∀ b d, designOf b = some d →
      exec (.describe [b]) s = .next (s.reply 0x18 .ok
        (.design (s.designs.get d) ((s.designs.get d).isReady && s.run.visited.contains d)))) ∧
    ∃ items : List DesignItem, exec (.listDesigns []) s = .next (s.reply 0x19 .ok (.designs items)) ∧
      items.length = 32 ∧
      ∀ d : Design, ∃ item, items[d.val]? = some item ∧ item.attrs = (s.designs.get d).attributes ∧
        item.inUse = ((s.designs.get d).isReady && s.run.visited.contains d) ∧
        item.state = (match s.designs.get d with
                      | .empty => .empty
                      | .loading _ _ => .loading
                      | .ready _ _ => .ready)

/-- RETIRE makes a READY descriptor EMPTY; its checks are made in order, it looks at no other descriptor, and a
CALL that names the design then finds the motif absent (R18). LOCK sets and UNLOCK clears the LOCKED attribute of
a READY descriptor, and no other field of it; the reply carries the attribute set after the request (R19). -/
def Obligations.RetireLockRules : Prop :=
  (∀ (s : State) (b : Byte), s.served →
    (32 ≤ b.toNat → exec (.retire [b]) s = .next (s.reply 0x15 .badArgument .empty)) ∧
    (∀ d, designOf b = some d →
      (s.designs.get d = .empty → exec (.retire [b]) s = .next (s.reply 0x15 .notFound .empty)) ∧
      (∀ x c, s.designs.get d = .loading x c → exec (.retire [b]) s = .next (s.reply 0x15 .loadActive .empty)) ∧
      (∀ x n, s.designs.get d = .ready x n →
        (d ∈ s.run.visited → exec (.retire [b]) s = .next (s.reply 0x15 .inUse .empty)) ∧
        (d ∉ s.run.visited → x.attrs.locked = true →
          exec (.retire [b]) s = .next (s.reply 0x15 .locked .empty)) ∧
        (d ∉ s.run.visited → x.attrs.locked = false →
          ∃ t, exec (.retire [b]) s = .next t ∧
            t = { s with designs := s.designs.set d .empty, link := s.link.place ⟨0x15, .ok, .empty⟩ } ∧
            ∀ p, t.callFailure p d = some .motifAbsent)))) ∧
  (∀ (s : State) (b : Byte), s.served →
    (32 ≤ b.toNat → exec (.lock [b]) s = .next (s.reply 0x16 .badArgument .empty) ∧
      exec (.unlock [b]) s = .next (s.reply 0x17 .badArgument .empty)) ∧
    (∀ d, designOf b = some d →
      (s.designs.get d = .empty → exec (.lock [b]) s = .next (s.reply 0x16 .notFound .empty) ∧
        exec (.unlock [b]) s = .next (s.reply 0x17 .notFound .empty)) ∧
      (∀ x c, s.designs.get d = .loading x c → exec (.lock [b]) s = .next (s.reply 0x16 .loadActive .empty) ∧
        exec (.unlock [b]) s = .next (s.reply 0x17 .loadActive .empty)) ∧
      (∀ x n, s.designs.get d = .ready x n →
        let y : Bool → DesignBody := fun v => { x with attrs := { x.attrs with locked := v } }
        exec (.lock [b]) s = .next { s with
          designs := s.designs.set d (.ready (y true) n)
          link := s.link.place ⟨0x16, .ok, .attributes (y true).attrs⟩ } ∧
        exec (.unlock [b]) s = .next { s with
          designs := s.designs.set d (.ready (y false) n)
          link := s.link.place ⟨0x17, .ok, .attributes (y false).attrs⟩ })))

/-- When each claim waits, as far as no burst in flight is stale (R41, R42, R59, R68). The winner of a grant decision:
the urgent feed in every mode (R44), and otherwise the mode's choice among the waiting claims (R45); a claimant alone
in waiting wins in every mode (R45). The winner's burst is granted and makes it the last granted; a burst in flight
holds the store (R44). The burst that a claim is granted: its design's region, its first index, and at most 8 records,
up to the chunk's end, the clamped count, or the design's end, a motif's END excluded (R28, R38, R41, R59, R68). -/
def Obligations.ArbiterTable : Prop :=
  ∀ s : State,
    let first : Claimant → Claimant → Claimant → Option Claimant := fun a b c =>
      if s.claims a then some a else if s.claims b then some b else if s.claims c then some c else none
    ((∀ b, s.burst = some b → b.stale = false) →
      let busy : Claimant → Prop := fun c => ∃ b, s.burst = some b ∧ b.claimant = c
      (s.claims .loader = true ↔
        ¬busy .loader ∧ ∃ c, s.load = some c ∧ (c.buffer0 ≠ none ∨ c.buffer1 ≠ none)) ∧
      (s.claims .readback = true ↔
        ¬busy .readback ∧ ∃ r, s.link.readBack = some r ∧ r.got.length < r.count) ∧
      (s.claims .feed = true ↔
        ¬busy .feed ∧
          (s.feed.activity = .filling ∧ s.feed.blocked = false ∧ s.queue.length ≤ 8 ∨
            s.feed.activity = .walking ∧ ∃ w, s.walk = some w ∧ w.want ≠ none))) ∧
    (s.claims .feed = true → s.urgent = true → s.winner = some .feed) ∧
    (s.claims .feed = false ∨ s.urgent = false →
      (s.config.arbiterMode = .feedFirst → s.winner = first .feed .loader .readback) ∧
      (s.config.arbiterMode = .loaderFirst → s.winner = first .loader .feed .readback) ∧
      (s.config.arbiterMode = .rotate → s.lastGranted = .feed → s.winner = first .loader .readback .feed) ∧
      (s.config.arbiterMode = .rotate → s.lastGranted = .loader → s.winner = first .readback .feed .loader) ∧
      (s.config.arbiterMode = .rotate → s.lastGranted = .readback → s.winner = first .feed .loader .readback)) ∧
    (∀ c, s.claims c = true → (∀ e, s.claims e = true → e = c) → s.winner = some c) ∧
    (s.urgent = true ↔ s.run.state ≠ .idle ∧ s.queue.length < 4) ∧
    (∀ b, s.burst = some b → s.arbitrate = s) ∧
    (∀ c b, s.burst = none → s.winner = some c → s.burstFor c = some b →
      s.arbitrate = { s with burst := some b, lastGranted := c }) ∧
    (∀ c q x, s.load = some c → (s.designs.get c.design).body? = some x →
      c.buffer0 = some q ∧ (c.buffer1 = none ∨ c.olderIs1 = false) ∨
        c.buffer1 = some q ∧ (c.buffer0 = none ∨ c.olderIs1 = true) →
      s.burstFor .loader = some
        { claimant := .loader, base := x.base, first := q.first + q.written
          count := min 8 (q.records.length - q.written), records := (q.records.drop q.written).take 8
          stale := false }) ∧
    (∀ r x, s.link.readBack = some r → (s.designs.get r.design).body? = some x →
      s.burstFor .readback = some
        { claimant := .readback, base := x.base, first := r.index + r.got.length
          count := min 8 (r.count - r.got.length), records := [], stale := false }) ∧
    (∀ (p : Position) (x : DesignBody), (s.designs.get p.inner.design).body? = some x →
      let reads : Nat → Nat → Prop := fun first count =>
        s.burstFor .feed = some
          { claimant := .feed, base := x.base, first := first, count := count, records := [], stale := false }
      let ahead := if p.callers = [] then x.length - p.inner.index else x.length - 1 - p.inner.index
      (s.feed.activity = .filling → s.feed.fetch = p → reads p.inner.index (min 8 ahead)) ∧
      (∀ w, s.feed.activity = .walking → s.walk = some w → w.want = some p →
        (w.dir = .forward → reads p.inner.index (min 8 ahead)) ∧
        (w.dir = .backward → reads (p.inner.index - 7) (p.inner.index + 1 - (p.inner.index - 7)))))

/-- A burst that completes. LOADER: its records stand at their places, every other byte of the store is as it was,
and it is counted to the older buffer unless its load has ended. READBACK: its records join those read before, and
with the last of them the reply is placed. FEED: the feed's or the walk's records are dealt with. A stale FEED or
READBACK burst is discarded (R11, R28, R36, R38, R40, R41, R48, R60, R68; what the head of the queue then does is
`whenStill`). The store is free then, and the grant decision is made (R43), behind the head of the queue (log 9,
DEDUCED). A burst whose places lie outside the store, and a FEED burst that reads a word that is no legal record,
stop the machine by name: R3, R11 and R40 exclude both (the model's choice, log 12). Which bursts are stale is
log 30. -/
def Obligations.BurstCompletes : Prop :=
  ∀ (s : State) (b : Burst), s.burst = some b →
    let words : List Word := (List.range b.count).map fun i => readPlace s.store (64 * b.base + b.first + i)
    let free : State := { s with burst := none }
    (s.storeCanonical → b.claimant = .loader → regionInside b.base b.first b.count = true →
        ∃ t, exec .burstComplete s = .next t ∧
          (∀ (i : Nat) (w : Word), b.records[i]? = some w → readPlace t.store (64 * b.base + b.first + i) = w) ∧
          (∀ a, a < 4 * (64 * b.base + b.first) ∨ 4 * (64 * b.base + b.first + b.records.length) ≤ a →
            Memory.read t.store a = Memory.read s.store a) ∧
          t.load = (if b.stale then s.load else s.load.map (LoadContext.credit b.count)) ∧
          t.designs = s.designs ∧ t.config = s.config ∧ State.granted none s t) ∧
    (∀ r, b.claimant = .readback → b.stale = false → regionInside b.base b.first b.count = true →
      s.link.readBack = some r →
        let got := r.got ++ words
        let link : Link :=
          if got.length < r.count then { s.link with readBack := some { r with got := got } }
          else { s.link with readBack := none }.place ⟨0x14, .ok, .records r.index r.count got⟩
        ∃ t, exec .burstComplete s = .next t ∧ State.upToGrant ({ free with link := link }.whenStill) t ∧
          t.store = s.store ∧ t.link = { link with runChange := t.link.runChange } ∧
          (s.quiet → State.upToGrant { free with link := link } t)) ∧
    (∀ records, b.claimant = .feed → b.stale = false → regionInside b.base b.first b.count = true →
      words.map decodeRecord = records.map some →
        (s.feed.activity = .filling → ∃ t, exec .burstComplete s = .next t ∧
          State.upToGrant (free.feedRecords records).whenStill t ∧ t.store = s.store ∧
          (s.quiet → State.upToGrant (free.feedRecords records) t)) ∧
        (s.feed.activity = .walking → ∃ t, exec .burstComplete s = .next t ∧
          State.upToGrant (free.walkRead b.first words).whenStill t ∧ t.store = s.store)) ∧
    (b.claimant ≠ .loader → b.stale = true → regionInside b.base b.first b.count = true →
      ∃ t, exec .burstComplete s = .next t ∧ State.upToGrant free.whenStill t ∧
        (s.quiet → State.upToGrant free t)) ∧
    (regionInside b.base b.first b.count = false → exec .burstComplete s = .fault .storeOutside) ∧
    (regionInside b.base b.first b.count = true → b.claimant = .feed → b.stale = false →
      (∃ w ∈ readRegion s.store b.base b.first b.count, decodeRecord w = none) →
        exec .burstComplete s = .fault .illegalRecord)

/-! ## Refusals -/

/-- A request whose payload has not its length, or that names a design, needle or head out of range, is
answered BAD_ARGUMENT, and so is a SPOOL to any state but READY and EMPTY; nothing else changes (R17, R112, R116,
R192). -/
def Obligations.MalformedRefused : Prop :=
  ∀ (s : State) (p : List Byte), s.served →
    let lengths : List ((List Byte → Instr) × Byte × Nat) :=
      [(.identify, 0x01, 0), (.status, 0x02, 0), (.headStatus, 0x03, 0), (.needleStatus, 0x04, 0),
       (.readConfig, 0x05, 0), (.configure, 0x06, 52), (.reset, 0x0F, 0), (.loadOpen, 0x10, 8),
       (.loadClose, 0x12, 3), (.loadCancel, 0x13, 1), (.readRecords, 0x14, 6), (.retire, 0x15, 1),
       (.lock, 0x16, 1), (.unlock, 0x17, 1), (.describe, 0x18, 1), (.listDesigns, 0x19, 0), (.start, 0x20, 1),
       (.resume, 0x21, 0), (.stop, 0x22, 0), (.quickStop, 0x23, 0), (.abort, 0x24, 0), (.back, 0x25, 2),
       (.forward, 0x26, 2), (.setSpeed, 0x27, 2), (.home, 0x30, 0), (.frameMove, 0x31, 4),
       (.shaftToTdc, 0x32, 0), (.selectNeedle, 0x33, 1), (.assign, 0x40, 7), (.clearNeedle, 0x41, 1),
       (.spool, 0x42, 3), (.mend, 0x43, 1), (.headEnable, 0x44, 2), (.bobbinChanged, 0x45, 1),
       (.nextCondition, 0x50, 0), (.listConditions, 0x51, 1), (.ackCondition, 0x52, 2)]
    (∀ c code n, (c, code, n) ∈ lengths → p.length ≠ n →
      exec (c p) s = .next (s.reply code .badArgument .empty)) ∧
    (p.length < 6 ∨ (∃ n, p[5]? = some n ∧ p.length ≠ 6 + 4 * n.toNat) →
      exec (.loadData p) s = .next (s.reply 0x11 .badArgument .empty)) ∧
    (∀ (b : Byte) (rest : List Byte), 32 ≤ b.toNat →
      exec (.loadData (b :: rest)) s = .next (s.reply 0x11 .badArgument .empty) ∧
      (∀ c code n, (c, code, n) ∈ lengths → 0x10 ≤ code.toNat → code.toNat ≤ 0x20 → code ≠ 0x19 →
        (b :: rest).length = n → exec (c (b :: rest)) s = .next (s.reply code .badArgument .empty))) ∧
    (∀ b : Byte, b.toNat = 0 ∨ s.config.needlesInstalled < b.toNat →
      exec (.selectNeedle [b]) s = .next (s.reply 0x33 .badArgument .empty) ∧
      exec (.clearNeedle [b]) s = .next (s.reply 0x41 .badArgument .empty) ∧
      ∀ h v c0 c1 m0 m1 v0 v1, exec (.spool [h, b, v]) s = .next (s.reply 0x42 .badArgument .empty) ∧
        exec (.assign [b, c0, c1, m0, m1, v0, v1]) s = .next (s.reply 0x40 .badArgument .empty)) ∧
    (∀ b : Byte, b.toNat = 0 ∨ s.config.headsInstalled < b.toNat →
      exec (.mend [b]) s = .next (s.reply 0x43 .badArgument .empty) ∧
      exec (.bobbinChanged [b]) s = .next (s.reply 0x45 .badArgument .empty) ∧
      ∀ n v, exec (.spool [b, n, v]) s = .next (s.reply 0x42 .badArgument .empty)) ∧
    (∀ h n v : Byte, 1 < v.toNat → exec (.spool [h, n, v]) s = .next (s.reply 0x42 .badArgument .empty))

/-- The checks of START, RESUME, BACK, FORWARD, HOME, FRAME_MOVE, SHAFT_TO_TDC, SELECT_NEEDLE, HEAD_ENABLE,
LOAD_OPEN, LOAD_DATA, LOAD_CLOSE, LOAD_CANCEL and READ_RECORDS, in their order: the first that fails gives the refusal,
with the cursor or the failing index where the rule names one, and nothing else changes (R1, R23, R25, R26, R33, R35,
R37, R79, R81, R110, R129, R134, R157, R162, R167). That an undefined bit of LOAD_OPEN's attribute byte is found at the
attribute row of R23 is the model's choice, log 38 (DESIGN CHOICE). -/
def Obligations.RefusalsInOrder : Prop :=
  ∀ (s : State) (st : Status), s.served →
    let noRun : Prop × Status := (s.run.state = .idle, .wrongState)
    let halt : Prop × Status := (s.haltLine = false, .haltActive)
    let known : Prop × Status := (∃ p, s.frame.state = .known p, .notHomed)
    let tdc : Prop × Status := (s.atTdc = true, .notAtTdc)
    let heads : Prop × Status := (∃ h, s.enabled h = true, .noHeads)
    (∀ b d, designOf b = some d → refusesWith
        [noRun, halt, (∃ x n, s.designs.get d = .ready x n, .notFound),
         (∃ x n, s.designs.get d = .ready x n ∧ x.attrs.startable = true, .badType), known,
         (s.carriagePosition ≠ none, .carriageLost), heads, tdc,
         (∃ p x n, s.frame.state = .known p ∧ s.designs.get d = .ready x n ∧
            2 * s.config.fieldXlo ≤ p.x + 2 * x.extent.xMin ∧ p.x + 2 * x.extent.xMax ≤ 2 * s.config.fieldXhi ∧
            2 * s.config.fieldXlo ≤ p.x + 2 * x.extent.xMax ∧ p.x + 2 * x.extent.xMin ≤ 2 * s.config.fieldXhi ∧
            2 * s.config.fieldYlo ≤ p.y + 2 * x.extent.yMin ∧ p.y + 2 * x.extent.yMax ≤ 2 * s.config.fieldYhi ∧
            2 * s.config.fieldYlo ≤ p.y + 2 * x.extent.yMax ∧ p.y + 2 * x.extent.yMin ≤ 2 * s.config.fieldYhi,
          .field)] st →
      exec (.start [b]) s = .next (s.reply 0x20 st .empty)) ∧
    (refusesWith
        [(s.run.state = .stopped ∨ s.run.state = .halted, .wrongState), halt, known,
         (s.carriagePosition ≠ none ∧ s.carriagePosition = s.run.needle, .carriageLost), heads, tdc] st →
      exec (.resume []) s = .next (s.reply 0x21 st .empty)) ∧
    (∀ n0 n1 : Byte, refusesWith
        [(1 ≤ (half n0 n1).toNat ∧ (half n0 n1).toNat ≤ 4095, .badArgument), (s.run.state = .stopped, .wrongState),
         halt, known, tdc] st →
      exec (.back [n0, n1]) s = .next (s.reply 0x25 st .empty) ∧
      exec (.forward [n0, n1]) s = .next (s.reply 0x26 st .empty)) ∧
    (refusesWith
        [noRun, halt, (s.frame.state.isHoming = false ∧ s.frame.state.isMoving = false, .wrongState), tdc] st →
      exec (.home []) s = .next (s.reply 0x30 st .empty)) ∧
    (∀ x0 x1 y0 y1 : Byte, refusesWith
        [noRun, halt, (s.frame.state ≠ .unknown ∧ s.frame.state.isHoming = false, .notHomed),
         (s.frame.state.isMoving = false, .wrongState), tdc,
         (∃ p, s.frame.state = .known p ∧
            s.config.inField ⟨p.x + 2 * (half x0 x1).toInt, p.y + 2 * (half y0 y1).toInt⟩ = true, .field)] st →
      exec (.frameMove [x0, x1, y0, y1]) s = .next (s.reply 0x31 st .empty)) ∧
    (refusesWith
        [(s.run.state = .idle ∨ s.run.state = .stopped ∨ s.run.state = .halted, .wrongState), halt,
         (s.carriage.state = .idle, .wrongState),
         (s.frame.state.isMoving = false ∧ s.frame.state.isHoming = false, .wrongState),
         (s.shaft.state = .still, .wrongState)] st →
      exec (.shaftToTdc []) s = .next (s.reply 0x32 st .empty)) ∧
    (∀ b n, needleOf s.config b = some n → refusesWith
        [(s.run.state = .idle ∨ s.run.state = .stopped, .wrongState), halt,
         (s.shaft.atRest = true ∧ s.shaft.command = 0, .wrongState), (s.carriage.state = .idle, .wrongState)] st →
      exec (.selectNeedle [b]) s = .next (s.reply 0x33 st .empty)) ∧
    (∀ m0 m1 : Byte, refusesWith
        [(∀ i, i < 16 → (half m0 m1).getLsbD i = true → i < s.config.headsInstalled, .badArgument),
         (s.run.state = .idle ∨ s.run.state = .stopped, .wrongState), (s.shaft.pendingFlag = false, .wrongState)]
        st →
      exec (.headEnable [m0, m1]) s = .next (s.reply 0x44 st .empty)) ∧
    (∀ b d b0 b1 l0 l1 l2 l3 a, designOf b = some d → refusesWith
        [(s.load = none, .loadActive), ((half b0 b1).toNat < 8192, .badArgument),
         (1 ≤ (word l0 l1 l2 l3).toNat ∧ (word l0 l1 l2 l3).toNat ≤ 262144, .badArgument),
         ((half b0 b1).toNat + ((word l0 l1 l2 l3).toNat + 63) / 64 ≤ 8192, .badArgument),
         (attributesOf a ≠ none, .badArgument), (s.designs.get d = .empty, .inUse),
         (∀ e x, (s.designs.get e).body? = some x →
            (half b0 b1).toNat + ((word l0 l1 l2 l3).toNat + 63) / 64 ≤ x.base ∨
            x.base + (x.length + 63) / 64 ≤ (half b0 b1).toNat, .overlap)] st →
      exec (.loadOpen [b, b0, b1, l0, l1, l2, l3, a]) s = .next (s.reply 0x10 st .empty)) ∧
    (∀ (b : Byte) (d : Design) (n i0 i1 i2 i3 s0 s1 : Byte) (ws : List Word),
      designOf b = some d → n.toNat = ws.length →
      let data : Instr := .loadData (b :: i0 :: i1 :: i2 :: i3 :: n :: ws.flatMap wordBytes)
      let first := (word i0 i1 i2 i3).toNat
      ((∀ c, s.load = some c → c.design ≠ d) →
        exec data s = .next (s.reply 0x11 .noLoad .empty) ∧
        exec (.loadClose [b, s0, s1]) s = .next (s.reply 0x12 .noLoad .empty) ∧
        exec (.loadCancel [b]) s = .next (s.reply 0x13 .noLoad .empty)) ∧
      (∀ c x cursor, s.load = some c → c.design = d → s.designs.get d = .loading x cursor →
        (ws.length = 0 ∨ 32 < ws.length → exec data s = .next (s.reply 0x11 .badArgument .empty)) ∧
        (1 ≤ ws.length → ws.length ≤ 32 →
          (first ≠ cursor → exec data s = .next (s.reply 0x11 .sequence (.index cursor))) ∧
          (first = cursor → x.length < first + ws.length →
            exec data s = .next (s.reply 0x11 .badArgument (.index x.length))) ∧
          (first = cursor → first + ws.length ≤ x.length →
            (∀ j, (∃ w, ws[j]? = some w ∧ wordPasses d x.length (first + j) w = false) →
              (∀ (i : Nat) (w : Word), i < j → ws[i]? = some w → wordPasses d x.length (first + i) w = true) →
                exec data s = .next (s.reply 0x11 .badArgument (.index (first + j)))) ∧
            ((∀ (i : Nat) (w : Word), ws[i]? = some w → wordPasses d x.length (first + i) w = true) →
              c.buffer0 ≠ none → c.buffer1 ≠ none → exec data s = .next (s.reply 0x11 .pending .empty)))))) ∧
    (∀ (b : Byte) (d : Design) (i0 i1 i2 i3 n : Byte), designOf b = some d → refusesWith
        [(s.designs.get d ≠ .empty, .notFound), (∀ x c, s.designs.get d ≠ .loading x c, .loadActive),
         (1 ≤ n.toNat ∧ n.toNat ≤ 32, .badArgument),
         (∃ x net, s.designs.get d = .ready x net ∧ (word i0 i1 i2 i3).toNat < x.length, .badArgument)] st →
      exec (.readRecords [b, i0, i1, i2, i3, n]) s = .next (s.reply 0x14 st .empty))

/-! ## The path -/

/-- Settling leaves a position off a motif's END: at the next repetition's record 0 while repetitions are left
and the motif is not empty, and else after the CALL in the frame above, tested in the same way; any other
position stays (R52, R61). -/
def Obligations.SettledPosition : Prop :=
  ∀ (len : Design → Nat) (f : ChainFrame) (callers : List ChainFrame),
    (let p := settlePos len f callers
     (p.callers ≠ [] → p.inner.index + 1 ≠ len p.inner.design) ∧ p.callers.length ≤ callers.length) ∧
    (callers = [] ∨ f.index + 1 ≠ len f.design → settlePos len f callers = ⟨f, callers⟩) ∧
    (∀ c up, callers = c :: up → f.index + 1 = len f.design →
      (1 < len f.design → f.rep < f.reps →
        settlePos len f callers = ⟨{ f with index := 0, rep := f.rep + 1 }, callers⟩) ∧
      (len f.design = 1 ∨ f.reps ≤ f.rep →
        settlePos len f callers = settlePos len { c with index := c.index + 1 } up))

/-- The annotation of an entry that joins the queue: counts, move time, the highest speed whose window the move
fits, planned end position, and the stationary and limit flags (R77, R78, R82, R83). -/
def Obligations.EntryAnnotated : Prop :=
  ∀ (s : State) (kind : EntryKind) (pos : Position),
    let e := s.annotate kind pos
    let window := (s.config.windowClose + 1024 - s.config.windowOpen) % 1024
    e.kind = kind ∧ e.pos = pos ∧
    (∀ dx dy, kind = .stitch dx dy ∨ kind = .jump dx dy →
      e.steps = 2 * max dx.natAbs dy.natAbs ∧
      e.time = (if e.steps = 0 then 0 else s.config.rampAllowance + e.steps * s.config.stepPeriod) ∧
      (e.time = 0 → e.nMax = s.config.speedMax) ∧
      (0 < e.time → ∀ n, n ≤ e.nMax ↔ 64 * e.time * n ≤ window * 3750000) ∧
      (e.stationary = true ↔ e.nMax < s.config.speedMin) ∧
      e.planned = ⟨s.plannedFrom.x + 2 * dx, s.plannedFrom.y + 2 * dy⟩ ∧
      (e.limit = false ↔
        2 * s.config.fieldXlo ≤ e.planned.x ∧ e.planned.x ≤ 2 * s.config.fieldXhi ∧
        2 * s.config.fieldYlo ≤ e.planned.y ∧ e.planned.y ≤ 2 * s.config.fieldYhi)) ∧
    ((∀ dx dy, kind ≠ .stitch dx dy ∧ kind ≠ .jump dx dy) →
      e.steps = 0 ∧ e.time = 0 ∧ e.nMax = s.config.speedMax ∧ e.stationary = false ∧
      e.planned = s.plannedFrom ∧ e.limit = false) ∧
    (∀ x, s.queue.getLast? = some x → s.plannedFrom = x.planned) ∧
    (s.queue = [] → ∀ p, s.frame.state = .known p → s.plannedFrom = p) ∧
    (s.queue = [] → ∀ m, s.frame.state = .moving m →
      (s.frame.followOn = none → s.plannedFrom = ⟨m.start.x + m.disp.x, m.start.y + m.disp.y⟩) ∧
      (∀ g, s.frame.followOn = some g →
        s.plannedFrom = ⟨m.start.x + m.disp.x + g.disp.x, m.start.y + m.disp.y + g.disp.y⟩))

/-- What the feed does with the records of a burst: a movement, TRIM, COLOUR or PAUSE record joins the queue and
the fetch position moves on; the main END finishes the feed; a CALL is followed, or the first of its four checks
that fails queues a FAULT entry and blocks the feed; the records behind a CALL are discarded (R54, R60, R62,
R63). -/
def Obligations.FeedProcessesRecords : Prop :=
  ∀ (s : State) (p : Position) (r : Record) (rest : List Record), s.feed.fetch = p →
    let at? : Position → State := fun q => { s with feed := { s.feed with fetch := q } }
    (∀ kind, (∃ dx dy, r = .stitch dx dy ∧ kind = .stitch dx dy) ∨ (∃ dx dy, r = .jump dx dy ∧ kind = .jump dx dy) ∨
        (r = .trim ∧ kind = .trim) ∨ (∃ c, r = .colour c ∧ kind = .colour c) ∨ (r = .pause ∧ kind = .pause) →
      s.feedRecords (r :: rest) =
        { at? (p.next s.len) with queue := s.queue ++ [s.annotate kind p] }.feedRecords rest) ∧
    (r = .endRec → s.feedRecords (r :: rest) =
      { s with queue := s.queue ++ [s.annotate .endMain p], feed := { s.feed with activity := .finished } }) ∧
    (∀ motif reps, r = .call motif reps →
      let fails : FaultReason → Prop := fun reason => s.feedRecords (r :: rest) =
        { s with queue := s.queue ++ [s.annotate (.fault reason) p], feed := { s.feed with blocked := true } }
      (s.designs.get motif).isReady = false ∧ fails .motifAbsent ∨
      ∃ x n, s.designs.get motif = .ready x n ∧
        ((x.attrs.callable = false → fails .notCallable) ∧
         (x.attrs.callable = true → motif ∈ p.designs → fails .recursive) ∧
         (x.attrs.callable = true → motif ∉ p.designs → 4 ≤ p.depth → fails .tooDeep) ∧
         (x.attrs.callable = true → motif ∉ p.designs → p.depth < 4 →
           let t := s.feedRecords (r :: rest)
           t.queue = s.queue ∧ t.feed = { s.feed with fetch := p.enter s.len motif reps } ∧
           motif ∈ t.run.visited ∧ (∀ d, d ∈ t.run.visited ↔ d = motif ∨ d ∈ s.run.visited) ∧
           (∀ c, s.conditionsSound → t.condition? .recordFault = some c → c.position = some p →
             c.state = .cleared))))

/-! ## The frame -/

/-- Minor pulse k is issued with major pulse ceil(k·m/mn), so that all mn are issued with the last major pulse
(R76). -/
def Obligations.MinorPulses : Prop :=
  ∀ m mn : Nat, mn ≤ m → 0 < m →
    (∀ j k, j ≤ m → 1 ≤ k → k ≤ mn → (k ≤ minorIssued m mn j ↔ minorPulseAt m mn k ≤ j)) ∧
    (∀ k, 1 ≤ k → k ≤ mn → k * m ≤ minorPulseAt m mn k * mn ∧ minorPulseAt m mn k * mn < k * m + mn) ∧
    minorIssued m mn m = mn ∧ (∀ j, j ≤ m → minorIssued m mn j ≤ mn)

/-- An emergency halt leaves the frame where its pulses left it: at the start of the move plus the pulses issued on
each axis, those of the minor axis by the statement MinorPulses, and so between the start and the target;
position and residual move together reach the target of the move and of the follow-on behind it; a host move
leaves none; homing is interrupted (R76, R80, R88). How the pulses are counted, one under way at the halt among them,
is log 11 (DESIGN CHOICE). -/
def Obligations.HaltStopsFrame : Prop :=
  ∀ s : State,
    (∀ m, s.frame.state = .moving m → m.issued ≤ m.disp.major →
      let ux := m.disp.x.natAbs
      let uy := m.disp.y.natAbs
      let minor : Nat := minorIssued (max ux uy) (min ux uy) m.issued
      ∃ p, s.haltedFrame.state = .known p ∧ s.haltedFrame.followOn = none ∧
        p.x = m.start.x + m.disp.x.sign * (if uy ≤ ux then m.issued else minor : Nat) ∧
        p.y = m.start.y + m.disp.y.sign * (if uy ≤ ux then minor else m.issued : Nat) ∧
        min m.start.x m.target.x ≤ p.x ∧ p.x ≤ max m.start.x m.target.x ∧
        min m.start.y m.target.y ≤ p.y ∧ p.y ≤ max m.start.y m.target.y ∧
        (m.kind = .host ∨ s.run.state = .idle → s.haltedFrame.residual = none) ∧
        (m.kind ≠ .host → s.run.state ≠ .idle →
          let left := m.target.add ((s.frame.followOn.map (·.disp)).getD ⟨0, 0⟩)
          (left = p → s.haltedFrame.residual = none) ∧
          (left ≠ p → ∃ r, s.haltedFrame.residual = some r ∧ p.add r = left))) ∧
    (∀ x y, s.frame.state = .homing x y →
      s.haltedFrame.state = .unknown ∧ s.haltedFrame.homing = .interrupted) ∧
    (s.frame.state.isMoving = false → s.frame.state.isHoming = false → s.haltedFrame.state = s.frame.state)

/-- An emergency halt, from the halt line becoming active and from a stall: the drive is disabled, the frame and the
carriage stop, the trimmers go off, a run is HALTED with its resume point, and every record counts as executed. A
STILL shaft turned by hand with the drive disabled already stays STILL. Where the shaft is at rest, a latch goes off
in the halt itself: that clause is the model's reading, log 15; that a burst of the feed is then stale is log 30
(both DEDUCED) (R48, R88, R108, R109, R127, R137, R169, R170). -/
def Obligations.EmergencyHalt : Prop :=
  ∀ s : State,
    let halted : StopReason → State → Prop := fun reason t =>
      t.shaft = { s.shaft with
                  state := if s.shaft.atRest = true ∨ s.shaft.enable = false ∧ s.shaft.state = .still then .still
                           else .coasting
                  command := 0, enable := false, backoff := false, active := none, pendingFlag := false
                  stopReq := t.shaft.stopReq } ∧
      t.frame = s.haltedFrame ∧ t.carriage = { s.carriage with state := .idle } ∧
      (∀ h, t.heads.get h = { s.heads.get h with
                              trimmer := false
                              latch := (s.heads.get h).latch && !s.shaft.atRest }) ∧
      t.lastGranted = s.lastGranted ∧
      t.burst = (if s.run.state = .idle ∨ s.run.state = .halted then s.burst else s.idledBurst) ∧
      (s.run.state = .idle → t.run = s.run) ∧
      (s.run.state ≠ .idle → t.run.state = .halted ∧ t.run.reason = reason ∧
        t.run.ordinal = s.run.ordinal ∧ t.run.frontier = s.run.frontier ∧ t.run.blockStart = s.run.blockStart) ∧
      (s.run.state ≠ .idle → s.run.state ≠ .halted →
        t.queue = [] ∧ t.feed.activity = .idle ∧ t.shaft.stopReq = .none ∧ t.run.pendingStop = false ∧
        t.link.runChange = true) ∧
      (s.run.state = .running ∨ s.run.state = .stopping ∨ s.run.state = .changing →
        t.run.resume = match s.queue with | e :: _ => some e.pos | [] => some s.feed.fetch) ∧
      (s.run.state = .stopped ∨ s.run.state = .backing ∨ s.run.state = .halted → t.run.resume = s.run.resume) ∧
      t.config = s.config ∧ t.store = s.store ∧ t.designs = s.designs ∧ t.needles = s.needles ∧
      t.enable = s.enable
    (s.haltLine = false → ∃ t, exec .haltLineActive s = .next t ∧ halted .haltLine t ∧
      t.haltLine = true ∧ t.conditions = s.conditions) ∧
    (s.haltLine = true → exec .haltLineActive s = .next s) ∧
    (0 < s.shaft.command → ∃ t, exec .shaftStall s = .next t ∧ halted .shaftStall t ∧
      ∃ c, t.condition? .shaftStall = some c ∧ c.state = .opened ∧ c.detail = .shaft s.shaft.state ∧
        c.ordinal = s.run.ordinal ∧ c.needle = none ∧ c.position = none)

/-- HOME, the home switches, the travel limit, FRAME_MOVE, and the completion of a host move, of a sewing move with a
follow-on behind it, of a sewing move with none and of the residual move, behind which a quick stop or the head of the
queue is dealt with, and of a stationary move: a stationary JUMP completes with it, a stationary STITCH starts its
penetration revolution, and a quick stop leaves the STITCH pending (R43, R76, R77, R79, R80, R81, R84, R86, R89, R95,
R96, R105, R106, R107, R136). That HOME begins with both axes not found, a switch that is active already being shown by
its command behind HOME, is log 39, and that the allowance of each axis is the T of R77 for its travel limit is log 42.
That HOME sets both direction outputs negative, and that an output keeps its level where nothing sets it, is log 17;
that a switch outside HOMING has no effect is log 3; that a STITCH left pending so has the penetrating set that its
taking left is log 13; that the grant decision follows the head of the queue is log 9, and that a burst of the feed is
stale once the run is held log 30. -/
def Obligations.FrameRequests : Prop :=
  ∀ s : State,
    (s.served → s.run.state = .idle → s.haltLine = false → s.frame.state.isHoming = false →
      s.frame.state.isMoving = false → s.atTdc = true →
      let allowance : Int → Int → Nat := fun lo hi =>
        let span := (2 * (hi - lo)).toNat
        let m := span + span / 10
        if m = 0 then 0 else s.config.rampAllowance + m * s.config.stepPeriod
      let axis : Int → Int → HomeAxis := fun lo hi => ⟨false, 0, allowance lo hi⟩
      exec (.home []) s = .next { s with
        frame := { s.frame with state := .homing (axis s.config.fieldXlo s.config.fieldXhi)
                                  (axis s.config.fieldYlo s.config.fieldYhi), homing := .none,
                                dirX := .negative, dirY := .negative }
        link := s.link.place ⟨0x30, .ok, .empty⟩ }) ∧
    (∀ x y, s.frame.state = .homing x y →
      let home : FrameUnit :=
        { s.frame with state := .known ⟨2 * s.config.homeX, 2 * s.config.homeY⟩, homing := .homed }
      let waits : HomeAxis → HomeAxis → FrameUnit := fun x y => { s.frame with state := .homing x y }
      exec (.homeSwitchActive .x) s = .next { s with
        frame := if y.found then home else waits { x with found := true } y } ∧
      exec (.homeSwitchActive .y) s = .next { s with
        frame := if x.found then home else waits x { y with found := true } } ∧
      (x.found = false → exec (.homeTravelLimit .x) s = .next { s with
        frame := { s.frame with state := .unknown, homing := .homeFailed } }) ∧
      (y.found = false → exec (.homeTravelLimit .y) s = .next { s with
        frame := { s.frame with state := .unknown, homing := .homeFailed } })) ∧
    (s.frame.state.isHoming = false → ∀ axis, exec (.homeSwitchActive axis) s = .next s) ∧
    (∀ (p : Point) (x0 x1 y0 y1 : Byte),
      let d : Point := ⟨2 * (half x0 x1).toInt, 2 * (half y0 y1).toInt⟩
      s.served → s.run.state = .idle → s.haltLine = false → s.frame.state = .known p → s.atTdc = true →
      2 * s.config.fieldXlo ≤ p.x + d.x → p.x + d.x ≤ 2 * s.config.fieldXhi →
      2 * s.config.fieldYlo ≤ p.y + d.y → p.y + d.y ≤ 2 * s.config.fieldYhi →
        ∃ t, exec (.frameMove [x0, x1, y0, y1]) s = .next t ∧
          t = { s with frame := t.frame, link := s.link.place ⟨0x31, .ok, .empty⟩ } ∧
          (d = ⟨0, 0⟩ → t.frame = s.frame) ∧
          (d ≠ ⟨0, 0⟩ → ∃ time, t.frame = { s.frame with
            state := .moving { kind := .host, start := p, disp := d, time := time, issued := 0 }
            dirX := if 0 < d.x then .positive else if d.x < 0 then .negative else s.frame.dirX
            dirY := if 0 < d.y then .positive else if d.y < 0 then .negative else s.frame.dirY } ∧
            time = s.config.rampAllowance + max d.x.natAbs d.y.natAbs * s.config.stepPeriod)) ∧
    (∀ m, s.frame.state = .moving m → s.frame.followOn = none → m.kind = .host →
      ∃ t, exec .moveComplete s = .next t ∧
        State.upToGrant { s with frame := { s.frame with
          state := .known ⟨m.start.x + m.disp.x, m.start.y + m.disp.y⟩ } } t) ∧
    (∀ m g, s.frame.state = .moving m → s.frame.followOn = some g → m.kind = .sewing → g.disp ≠ ⟨0, 0⟩ →
      ∃ t n, exec .moveComplete s = .next t ∧ State.upToGrant { s with frame := t.frame } t ∧
        t.frame.state = .moving n ∧ t.frame.followOn = none ∧
        n.kind = .sewing ∧ n.start = m.target ∧ n.disp = g.disp ∧ n.issued = 0) ∧
    (∀ m, s.frame.state = .moving m → s.frame.followOn = none → m.kind = .residual ∨ m.kind = .sewing →
      let home : FrameUnit :=
        { s.frame with
          state := .known ⟨m.start.x + m.disp.x, m.start.y + m.disp.y⟩
          residual := if m.kind = .residual then none else s.frame.residual }
      let arrived : State := { s with frame := home }
      let sews : Prop := s.run.state = .running ∨ s.run.state = .stopping
      let held : Shaft → State → Prop := fun sh t =>
        t.frame = home ∧ t.shaft = { sh with stopReq := .none } ∧ t.heads = s.heads ∧ t.queue = [] ∧
        t.feed.activity = .idle ∧ t.link = { s.link with runChange := true } ∧ State.granted s.idledBurst s t ∧
        t.run = { s.run with
                  state := .stopped, pendingStop := false
                  resume := match s.queue with | e :: _ => some e.pos | [] => some s.feed.fetch }
      let plain : Entry → Prop := fun e => (e.isMovement = true ∨ e.kind = .trim) ∧ e.limit = false
      ∃ t, exec .moveComplete s = .next t ∧
        (s.shaft.state ≠ .still ∨ s.shaft.active = none ∧ ¬sews → State.upToGrant arrived t) ∧
        (sews → s.shaft.state = .still → s.shaft.atRest = true → s.shaft.stopReq = .quick →
          ((∀ a, s.shaft.active = some a → a.kind ≠ .jump) → held s.shaft t) ∧
          ((∃ a, s.shaft.active = some a ∧ a.kind = .jump) → held { s.shaft with active := none } t)) ∧
        (sews → s.shaft.state = .still → s.atTdc = true → s.shaft.active = none → s.shaft.stopReq ≠ .quick →
          (s.queue = [] → s.run.pendingStop = false → State.upToGrant arrived t) ∧
          (s.queue = [] → s.run.pendingStop = true → held s.shaft t) ∧
          (∀ e rest, s.queue = e :: rest → plain e →
            let ready : Prop := s.run.state = .running ∧ s.carriage.state = .idle ∧ s.haltLine = false
            (s.run.pendingStop = true → held s.shaft t) ∧
            (s.run.pendingStop = false → ¬ready → State.upToGrant arrived t) ∧
            (s.run.pendingStop = false → ready → e.stationary = false →
              State.begun e rest { arrived with shaft := { s.shaft with vPrev := s.config.speedMin } } t)))) ∧
    (∀ m a, s.frame.state = .moving m → s.frame.followOn = none → m.kind = .stationary →
      s.shaft.active = some a → s.shaft.state = .still → s.shaft.atRest = true → s.sewing = true →
        let home : FrameUnit := { s.frame with state := .known ⟨m.start.x + m.disp.x, m.start.y + m.disp.y⟩ }
        (a.kind = .jump → s.queue = [] → s.run.pendingStop = false → s.shaft.stopReq ≠ .quick →
          ∃ t, exec .moveComplete s = .next t ∧
            State.upToGrant { s with frame := home, shaft := { s.shaft with active := none } } t) ∧
        (∀ dx dy, a.kind = .stitch dx dy → s.shaft.stopReq ≠ .quick →
          let s1 : State := { s with shaft := { s.shaft with vPrev := s.config.speedMin } }
          ∃ t, exec .moveComplete s = .next t ∧ t.frame = home ∧ t.run = s.run ∧ t.queue = s.queue ∧
            State.granted s.burst s t ∧
            (∀ e : Entry, e.kind = .stitch dx dy → e.nMax = s.config.speedMax →
              t.shaft = { s.shaft with
                state := .turning, enable := true, command := s1.planSpeed e s.queue
                vPrev := s1.planSpeed e s.queue, capEff := s1.effectiveCap, backoff := false
                active := t.shaft.active }) ∧
            (∃ z, t.shaft.active = some z ∧ z.kind = a.kind ∧ z.awaiting = false ∧
              ∀ h, z.pen.get h = decide ((s.heads.get h).state = .sewing)) ∧
            (∀ h, t.heads.get h = { s.heads.get h with latch := decide ((s.heads.get h).state = .sewing) })) ∧
        (∀ dx dy, a.kind = .stitch dx dy → s.shaft.stopReq = .quick →
          ∃ t, exec .moveComplete s = .next t ∧ t.frame = home ∧ t.run.state = .stopped ∧
            State.granted s.idledBurst s t ∧ t.run.reason = s.run.reason ∧ t.shaft.state = .still ∧
            t.shaft.pendingFlag = true ∧ t.shaft.active = some { a with awaiting := false } ∧ t.heads = s.heads))

/-! ## The shaft -/

/-- The speed of a revolution: the plan bound, at most accel_step above and decel_step below the speed before,
and within speed_min..speed_max; a backoff or a controlled stop holds it at the lowest value that the
deceleration reaches. The effective cap is the host cap within speed_max and the deceleration, lowered for a backoff
or a controlled stop. The plan bound is the least bound of the entries and of the unknown record beyond the tail,
each limited by the cap, its N_max, the current needle's ceiling and its kind (R98, R99, R100, R101). -/
def Obligations.SpeedPlan : Prop :=
  ∀ (s : State) (e : Entry) (rest : List Entry),
    let lo := max s.config.speedMin (s.shaft.vPrev - s.config.decelStep)
    let base := min s.config.speedMax (max s.shaft.hostCap lo)
    let cap := s.effectiveCap
    let bound := s.planBound cap e rest
    let v := s.planSpeed e rest
    let limit : Entry → Nat := fun x =>
      min cap (min x.nMax (min s.ceiling (if x.kind = .trim then s.config.speedTrim else s.config.speedMax)))
    (s.shaft.backoff = true ∨ s.shaft.stopReq = .controlled → cap = min base lo) ∧
    (s.shaft.backoff = false → s.shaft.stopReq ≠ .controlled → cap = base) ∧
    (∀ n x, s.run.needle = some n → (s.needles.get n).thread = some x → s.ceiling = x.ceiling) ∧
    ((∀ n, s.run.needle = some n → (s.needles.get n).thread = none) → s.ceiling = s.config.speedMax) ∧
    v = max lo (min bound (s.shaft.vPrev + s.config.accelStep)) ∧
    bound ≤ limit e ∧
    (∀ j x, rest[j]? = some x → bound ≤
      if x.isStop then s.config.speedMin + j * s.config.decelStep else limit x + (j + 1) * s.config.decelStep) ∧
    bound ≤ s.config.speedMin + rest.length * s.config.decelStep ∧
    (bound = limit e ∨ bound = s.config.speedMin + rest.length * s.config.decelStep ∨
      ∃ j x, rest[j]? = some x ∧ bound =
        if x.isStop then s.config.speedMin + j * s.config.decelStep else limit x + (j + 1) * s.config.decelStep) ∧
    (s.shaft.backoff = true ∨ s.shaft.stopReq = .controlled → v = lo) ∧
    (s.config.speedMin ≤ s.config.speedMax → s.shaft.vPrev ≤ s.config.speedMax →
      s.config.speedMin ≤ v ∧ v ≤ s.config.speedMax ∧ s.config.speedMin ≤ cap ∧ cap ≤ s.config.speedMax)

/-- A window-open crossing, by its command or by the encoder's count reaching Wo from the count below, by the shaft
state. In TURNING it completes the record in progress, and then it begins the record at the head of the queue, or parks
the shaft when there is none to begin; in BRAKING and POSITIONING it completes the record and begins none; elsewhere it
does neither. A crossing made with a speed commanded clears SHAFT_STALL first (R91, R92, R93, R94, R102, R107, R109,
R135, R148; what a completion does is the statement ThreadCharge). That a lone crossing command sets the count, and
that one behind such a count change is the same crossing and does nothing more, is log 4, the least of Vprev and
speed_min in PARKING is log 19, and the command falling to 0 in the band before the crossing is log 35. That the grant
decision of R43 is made behind the begin point is log 9. -/
def Obligations.Crossings : Prop :=
  ∀ s : State,
    let angle := countOf s.config.windowOpen
    (s.shaft.crossed = true → s.shaft.angle = angle →
      exec .windowOpenCrossing s = .next { s with shaft := { s.shaft with crossed := false } }) ∧
    (∀ (i : Instr) (made : Bool), s.shaft.atRest = false ∨ s.carriage.state = .idle →
      (i = .windowOpenCrossing ∧ made = false ∧ (s.shaft.crossed = false ∨ s.shaft.angle ≠ angle)) ∨
        (i = .encoderCountChange angle ∧ made = true ∧ angle = s.shaft.angle + 1) →
      let band := inBand s.config angle
      let moved : State := { s with shaft := { s.shaft with
        angle := angle, crossed := made, atRest := false
        command := if band = true ∧ (s.shaft.state = .parking ∨
                      s.shaft.state = .positioning ∧ s.shaft.pendingFlag = false) then 0
                   else s.shaft.command } }
      let cleared : State := if 0 < moved.shaft.command then moved.clearCause .shaftStall else moved
      let s1 : State := cleared.completeRecord
      (s.conditionsSound → 0 < moved.shaft.command → cleared.causeOpen .shaftStall = false) ∧
      (s.shaft.state = .turning → s.shaft.stopReq ≠ .quick →
        (∀ e rest, s.queue = e :: rest → s.run.state = .running ∨ s.run.state = .stopping → e.isStop = false →
          s1.shaft.stopReq ≠ .controlled ∨ s.config.speedMin < s.shaft.vPrev →
            ∃ t, exec i s = .next t ∧ s1.begun e rest t) ∧
        (s.queue = [] ∨ (s.run.state ≠ .running ∧ s.run.state ≠ .stopping) ∨ (∃ e rest, s.queue = e :: rest ∧
            (e.isStop = true ∨ s1.shaft.stopReq = .controlled ∧ s.shaft.vPrev ≤ s.config.speedMin)) →
          ∃ t, exec i s = .next t ∧ State.upToGrant { s1 with
            shaft := { s1.shaft with
              state := .parking, command := if band then 0 else min s.shaft.vPrev s.config.speedMin } } t)) ∧
      (s.shaft.state = .braking → ∃ t, exec i s = .next t ∧ State.upToGrant s1 t) ∧
      (s.shaft.state = .positioning → ∃ t, exec i s = .next t ∧ State.upToGrant { s1 with
        shaft := { s1.shaft with
          command := if band = true ∧ s1.shaft.pendingFlag = false then 0 else s1.shaft.command } } t) ∧
      (s.shaft.state = .parking ∨ s.shaft.state = .coasting ∨ s.shaft.state = .still →
        ∃ t, exec i s = .next t ∧ State.upToGrant cleared t))

/-- A window-close crossing, by its command or by the encoder's count reaching Wc from the count below, counts at most
one overrun and asks for a backoff while a sewing or follow-on move is in flight, and fires the trimmers of a TRIM in
TURNING and POSITIONING (R85, R91, R97, R137). That a crossing command behind such a count change is the same crossing,
and then does nothing more, is log 4. -/
def Obligations.WindowClose : Prop :=
  ∀ s : State,
    let angle := countOf s.config.windowClose
    (s.shaft.crossed = true → s.shaft.angle = angle →
      exec .windowCloseCrossing s = .next { s with shaft := { s.shaft with crossed := false } }) ∧
    (∀ (i : Instr) (made : Bool), s.shaft.atRest = false ∨ s.carriage.state = .idle →
      (i = .windowCloseCrossing ∧ made = false ∧ (s.shaft.crossed = false ∨ s.shaft.angle ≠ angle)) ∨
        (i = .encoderCountChange angle ∧ made = true ∧ angle = s.shaft.angle + 1 ∧
          angle ≠ countOf s.config.windowOpen) →
      let late : Prop := s.frame.followOn ≠ none ∨ ∃ m, s.frame.state = .moving m ∧ m.kind = .sewing
      ∃ t, exec i s = .next t ∧
        (late → t.frame = { s.frame with overruns := min 65535 (s.frame.overruns + 1) } ∧ t.shaft.backoff = true) ∧
        (¬late → t.frame = s.frame ∧ t.shaft.backoff = s.shaft.backoff) ∧
        (∀ h, t.heads.get h = { s.heads.get h with trimmer := (t.heads.get h).trimmer } ∧
          ((t.heads.get h).trimmer = true ↔ (s.heads.get h).trimmer = true ∨
            ∃ a, s.shaft.active = some a ∧ a.kind = .trim ∧ a.pen.get h = true ∧
              (s.shaft.state = .turning ∨ s.shaft.state = .positioning))) ∧
        t.shaft.angle = angle ∧ t.shaft.crossed = made ∧ t.shaft.atRest = false ∧
        t.shaft.state = s.shaft.state ∧ t.shaft.active = s.shaft.active ∧ t.queue = s.queue ∧ t.run = s.run ∧
        t.config = s.config ∧ t.store = s.store ∧ t.needles = s.needles ∧ t.conditions = s.conditions ∧
        t.burst = s.burst ∧ t.lastGranted = s.lastGranted)

/-- A change of the encoder's count that makes no crossing only moves the shaft, and the command becomes 0 in
the TDC band where R92 says so; coming to rest with no run sewing and no record begun leaves each shaft state as
R92's table says. The rest of a quick stop's braking: a STITCH or a TRIM in progress is pending completion, a JUMP
completes, and the run is STOPPED with its reason and resume point, or waits for the move in flight (R91, R92, R98,
R106, R107, R136, R159). That Vprev becomes speed_min at a rest in TURNING too, although R98 also gives the V0 of the
revolution at its next crossing, is the model's choice, log 41 (DESIGN CHOICE); that the grant decision of R43 follows
the head of the queue is log 9, and that a burst of the feed is stale once the run is held log 30 (both DEDUCED). -/
def Obligations.ShaftTurnsAndRests : Prop :=
  ∀ s : State,
    (∀ c : BitVec 10, c ≠ s.shaft.angle →
      (c = s.shaft.angle + 1 → c.toNat ≠ s.config.windowOpen ∧ c.toNat ≠ s.config.windowClose) →
      s.config.windowOpen < 1024 → s.config.windowClose < 1024 →
      s.shaft.atRest = false ∨ s.carriage.state = .idle →
        exec (.encoderCountChange c) s = .next { s with shaft := { s.shaft with
          angle := c, crossed := false, atRest := false
          command := if inBand s.config c = true ∧ (s.shaft.state = .parking ∨
                        s.shaft.state = .positioning ∧ s.shaft.pendingFlag = false) then 0
                     else s.shaft.command } }) ∧
    (s.shaft.atRest = false → s.run.state ≠ .running → s.run.state ≠ .stopping → s.shaft.active = none →
      s.shaft.pendingFlag = false →
        let band := inBand s.config s.shaft.angle
        let driven : Prop := s.shaft.state = .parking ∨ s.shaft.state = .positioning
        ∃ t, exec .shaftAtRest s = .next t ∧
          t.shaft.atRest = true ∧ t.shaft.vPrev = s.config.speedMin ∧ t.shaft.backoff = false ∧
          t.shaft.angle = s.shaft.angle ∧ t.shaft.hostCap = s.shaft.hostCap ∧
          (driven → band = true → t.shaft.state = .still ∧ t.shaft.command = 0) ∧
          (driven → band = false → t.shaft.state = s.shaft.state ∧ t.shaft.command = s.config.speedMin ∧
            t.shaft.enable = true) ∧
          (s.shaft.state = .braking → t.shaft.state = .still ∧ t.shaft.command = 0) ∧
          (s.shaft.state = .coasting → t.shaft.state = .still ∧ t.shaft.command = s.shaft.command) ∧
          (∀ h, t.heads.get h = { s.heads.get h with latch := false }) ∧
          State.upToGrant { s with shaft := t.shaft, heads := t.heads } t) ∧
    (s.shaft.state = .braking → s.shaft.atRest = false → s.shaft.stopReq = .quick →
      s.run.state = .running ∨ s.run.state = .stopping →
        let pends : Bool := match s.shaft.active with
          | some a => decide (a.kind ≠ .jump)
          | none => false
        let still : Shaft :=
          { s.shaft with
            state := .still, command := 0, atRest := true, vPrev := s.config.speedMin, backoff := false
            pendingFlag := pends }
        ∃ t, exec .shaftAtRest s = .next t ∧
          (∀ h, t.heads.get h = { s.heads.get h with latch := (s.heads.get h).latch && pends }) ∧
          (s.frame.state.isMoving = true → State.upToGrant { s with shaft := still, heads := t.heads } t) ∧
          (s.frame.state.isMoving = false →
            t.shaft = { still with stopReq := .none, active := if pends then s.shaft.active else none } ∧
            t.run = { s.run with
                      state := .stopped, pendingStop := false
                      resume := match s.queue with | e :: _ => some e.pos | [] => some s.feed.fetch } ∧
            t.queue = [] ∧ t.feed.activity = .idle ∧ t.link = { s.link with runChange := true } ∧
            t.frame = s.frame ∧ t.needles = s.needles ∧ t.conditions = s.conditions ∧ t.carriage = s.carriage ∧
            t.config = s.config ∧ t.store = s.store ∧ t.designs = s.designs ∧ State.granted s.idledBurst s t))

/-- The rows of R95's table for an entry at the head when a parking shaft comes to rest at TDC with no record and
no move in progress: each stop entry, a pending stop, a starved pause, the begin point at rest of a non-stop entry, the
taking of a stationary entry, the first tests of a colour change, and the change to the carriage's own position, done at
once (R55, R57, R65, R86, R95, R96, R98, R105, R122, R123, R124, R136, R145, R146, R156, R159, R172, R173, R174; the
absent needle of a LOST carriage, and CARRIAGE_FAULT cleared by a change that needs no step, are log 14, and that no
head is in the set of a stationary entry at its taking log 13; that the grant decision of R43 follows the head of the
queue is log 9, and that a burst of the feed is stale once the run is held or ends log 30). -/
def Obligations.ParkedHeadOfQueue : Prop :=
  ∀ s : State, s.shaft.state = .parking → s.shaft.atRest = false → inBand s.config s.shaft.angle = true →
    s.shaft.active = none → s.shaft.pendingFlag = false → s.frame.state.isMoving = false →
    s.run.state = .running ∨ s.run.state = .stopping → s.shaft.stopReq ≠ .quick →
      ∃ t, exec .shaftAtRest s = .next t ∧ t.store = s.store ∧ t.config = s.config ∧ t.designs = s.designs ∧
        (let held : StopReason → Option Position → Prop := fun reason resume =>
           t.run.ordinal = s.run.ordinal ∧ t.run.frontier = s.run.frontier ∧ t.run.state = .stopped ∧
           t.run.reason = reason ∧ t.run.resume = resume ∧ t.queue = [] ∧
           t.feed.activity = .idle ∧ t.run.pendingStop = false ∧ t.shaft.stopReq = .none ∧
           t.link.runChange = true ∧ State.granted s.idledBurst s t
         let blockEnd : Prop := s.config.breakPolicy = .runOn ∧ s.anyBroken = true ∧ s.run.blockEnd = false
         (s.queue = [] → s.run.pendingStop = true → held s.run.reason (some s.feed.fetch)) ∧
         (s.queue = [] → s.run.pendingStop = false → t.run = s.run ∧ t.queue = [] ∧ State.granted s.burst s t) ∧
         ∀ e rest, s.queue = e :: rest →
           (e.kind = .pause → t.run.chain = some e.pos ∧
             held .pause (match rest with | x :: _ => some x.pos | [] => some s.feed.fetch)) ∧
           (∀ reason, e.kind = .fault reason → held .recordFault (some e.pos) ∧
             ∃ c, t.condition? .recordFault = some c ∧ c.state = .opened ∧ c.detail = .recordFault reason ∧
               c.ordinal = s.run.ordinal ∧ c.position = some e.pos) ∧
           (e.isMovement = true → e.limit = true → held .frameLimit (some e.pos) ∧
             ∃ c, t.condition? .frameLimit = some c ∧ c.state = .opened ∧ c.ordinal = s.run.ordinal ∧
               c.position = some e.pos ∧ ∃ x y, c.detail = .limit e.planned x y ∧
                 (x = true ↔ e.planned.x < 2 * s.config.fieldXlo ∨ 2 * s.config.fieldXhi < e.planned.x) ∧
                 (y = true ↔ e.planned.y < 2 * s.config.fieldYlo ∨ 2 * s.config.fieldYhi < e.planned.y)) ∧
           (e.isMovement = true ∨ e.kind = .trim → e.limit = false → s.run.pendingStop = true →
             held s.run.reason (some e.pos)) ∧
           (e.isMovement = true ∨ e.kind = .trim → e.limit = false → s.run.pendingStop = false →
             let rested : State :=
               { s with
                 shaft := { s.shaft with
                   state := .still, command := 0, atRest := true, vPrev := s.config.speedMin, backoff := false }
                 heads := s.heads.map fun r => { r with latch := false } }
             let ready : Prop := s.run.state = .running ∧ s.carriage.state = .idle ∧ s.haltLine = false
             (¬ready → State.upToGrant rested t) ∧
             (ready → e.stationary = false → rested.begun e rest t) ∧
             (ready → e.stationary = true →
               let p := if e.isMovement then min (s.run.ordinal + 1) 4294967295 else s.run.ordinal
               t.queue = rest ∧ State.granted s.burst s t ∧
               t.run = { s.run with chain := some e.pos, ordinal := p,
                                    frontier := if e.isMovement then max s.run.frontier p else s.run.frontier } ∧
               t.shaft = { rested.shaft with
                 capEff := rested.effectiveCap
                 active := some { kind := e.revKind, pen := .fill false, awaiting := true } } ∧
               (∀ h, (t.heads.get h).latch = false ∧
                 (t.heads.get h).state = match (s.heads.get h).state with
                   | .waiting r => if e.isMovement = true ∧ r ≤ p then .sewing else .waiting r
                   | x => x) ∧
               (∀ q, s.frame.state = .known q → e.disp ≠ ⟨0, 0⟩ → ∃ m, t.frame.state = .moving m ∧
                 m.kind = .stationary ∧ m.start = q ∧ m.disp = e.disp ∧ m.issued = 0 ∧
                 m.time = s.config.rampAllowance + max e.disp.x.natAbs e.disp.y.natAbs * s.config.stepPeriod))) ∧
           ((∃ code, e.kind = .colour code) ∨ e.kind = .endMain → blockEnd →
             held .blockEndBroken (some e.pos) ∧ t.run.blockEnd = true) ∧
           (∀ code, e.kind = .colour code → ¬blockEnd →
             (s.carriagePosition = none → held .carriageFault (some e.pos) ∧
               ∃ c, t.condition? .carriageFault = some c ∧ c.state = .opened ∧ c.detail = .carriage .lost ∧
                 c.needle = none ∧ c.ordinal = s.run.ordinal ∧ c.position = some e.pos) ∧
             (∀ p reason, s.carriagePosition = some p → s.select code = .unmatched reason →
               held .needleUnmatched (some e.pos) ∧
               ∃ c, t.condition? .needleUnmatched = some c ∧ c.state = .opened ∧
                 c.detail = .unmatched reason code ∧ c.ordinal = s.run.ordinal ∧ c.position = some e.pos) ∧
             (∀ p n, s.carriagePosition = some p → s.select code = .needle n → n ≠ p →
               t.queue = s.queue ∧ t.run = { s.run with state := .changing } ∧ State.granted s.burst s t ∧
               ∃ q, t.carriage.state = .stepping n (some q) ∧ (p.val < n.val → q.val = p.val + 1) ∧
                 (n.val < p.val → q.val + 1 = p.val)) ∧
             (∀ p g, s.carriagePosition = some p → s.select code = .needle p → s.enabled g = true →
               (∀ h, s.enabled h = true → (s.needles.get p).perHead.get h = .ready ∧
                 ((s.heads.get h).state = .sewing ∨ ∃ m, (s.heads.get h).state = .waiting m)) →
               let done : Run :=
                 { s.run with needle := some p, blockStart := s.run.ordinal, blockEnd := false, chain := some e.pos }
               let stays : StopReason → Prop := fun reason =>
                 t.run = { done with
                           state := .stopped, pendingStop := false, reason := reason
                           resume := match rest with | x :: _ => some x.pos | [] => some s.feed.fetch } ∧
                 t.queue = [] ∧ t.feed.activity = .idle ∧ t.link.runChange = true ∧ State.granted s.idledBurst s t
               (s.run.pendingStop = true → stays s.run.reason) ∧
               (s.run.pendingStop = false → s.config.autoResume = false → stays .colourDone) ∧
               (s.run.pendingStop = false → s.config.autoResume = true → rest = [] →
                 t.run = { done with state := .running } ∧ t.queue = [] ∧ State.granted s.burst s t) ∧
               (s.run.pendingStop = true ∨ s.config.autoResume = false ∨ rest = [] →
                 t.carriage = s.carriage ∧ t.frame = s.frame ∧ t.needles = s.needles ∧
                 (∀ h, t.heads.get h = if s.enabled h then
                   { s.heads.get h with state := .sewing, balance := 0, grace := 2, latch := false }
                   else { s.heads.get h with latch := false }) ∧
                 (s.conditionsSound → t.causeOpen .carriageFault = false)))) ∧
           (e.kind = .endMain → ¬blockEnd →
             t.run.state = .idle ∧ t.run.result = .complete ∧ t.run.reason = .none ∧ t.run.chain = none ∧
             t.run.visited = [] ∧ t.run.resume = none ∧ t.queue = [] ∧ t.link.runChange = true ∧
             State.granted s.idledBurst s t))

/-- SHAFT_TO_TDC drives a STILL shaft that is not at TDC at speed_min; SET_SPEED applies the host cap, clamped
into the range of speeds, in every run state (R92, R103, R110). -/
def Obligations.ShaftRequests : Prop :=
  ∀ s : State, s.served →
    (s.run.state = .idle ∨ s.run.state = .stopped ∨ s.run.state = .halted → s.haltLine = false →
      s.carriage.state = .idle → s.frame.state.isMoving = false → s.frame.state.isHoming = false →
      s.shaft.state = .still →
        let link := s.link.place ⟨0x32, .ok, .empty⟩
        (s.atTdc = true → exec (.shaftToTdc []) s = .next { s with link := link }) ∧
        (s.atTdc = false → exec (.shaftToTdc []) s = .next { s with
          link := link
          shaft := { s.shaft with
            state := .positioning, enable := true
            command := if inBand s.config s.shaft.angle = true ∧ s.shaft.pendingFlag = false then 0
                       else s.config.speedMin } })) ∧
    (∀ v0 v1 : Byte,
      let cap := min s.config.speedMax (max s.config.speedMin (half v0 v1).toNat)
      exec (.setSpeed [v0, v1]) s = .next { s with
        shaft := { s.shaft with hostCap := cap }, link := s.link.place ⟨0x27, .ok, .speed cap⟩ })

/-! ## Needles and the carriage -/

/-- An entry matches a code in every bit that its mask leaves; the needle selected for a code is the one whose
code alone is equal, else the current needle if its entry matches, else the one that alone matches, else none
(R118). -/
def Obligations.SelectionOrder : Prop :=
  ∀ (s : State) (c : Half),
    let entry : Needle → Thread → Prop := fun n t =>
      (s.needles.get n).thread = some t ∧ n.val + 1 ≤ s.config.needlesInstalled
    let equal : Needle → Prop := fun n => ∃ t, entry n t ∧ t.code = c
    let fits : Needle → Prop := fun n => ∃ t, entry n t ∧
      ∀ i, i < 16 → t.mask.getLsbD i = false → t.code.getLsbD i = c.getLsbD i
    (∀ n, s.entryMatches c n = true ↔ fits n) ∧
    (∀ n t, entry n t → (t.mask = 0 → (s.entryMatches c n = true ↔ t.code = c)) ∧
      (t.mask = 0xFFFF → s.entryMatches c n = true)) ∧
    (∀ n, equal n → (∀ m, equal m → m = n) → s.select c = .needle n) ∧
    ((∀ n, equal n → ∃ m, equal m ∧ m ≠ n) →
      (∀ n, s.run.needle = some n → fits n → s.select c = .needle n) ∧
      ((∀ n, s.run.needle = some n → ¬fits n) →
        (∀ n, fits n → (∀ m, fits m → m = n) → s.select c = .needle n) ∧
        ((∀ n, ¬fits n) → s.select c = .unmatched .none) ∧
        (∀ n m, fits n → fits m → n ≠ m → s.select c = .unmatched .ambiguous)))

/-- ASSIGN makes an entry valid and keeps its per-head states; SPOOL and MEND set one per-head state; each
answers what its rule gives. A change of a per-head state clears each THREAD_BREAK cause whose head is neither
BROKEN nor has a BROKEN needle state: R151 tests the heads that an event changed, and testing every head is log 31;
that a needle state above needles_installed counts too is the model's choice, log 43 (DESIGN CHOICE)
(R113, R114, R116, R149, R151). -/
def Obligations.NeedleTableRequests : Prop :=
  ∀ s : State, s.served →
    (∀ (b : Byte) (n : Needle) (c0 c1 m0 m1 v0 v1 : Byte), needleOf s.config b = some n →
      let ceiling := min s.config.speedMax (max s.config.speedMin (half v0 v1).toNat)
      (s.run.state = .idle ∨ s.run.needle ≠ some n →
        exec (.assign [b, c0, c1, m0, m1, v0, v1]) s = .next { s with
          needles := s.needles.set n
            { s.needles.get n with thread := some { code := half c0 c1, mask := half m0 m1, ceiling := ceiling } }
          link := s.link.place ⟨0x40, .ok, .speed ceiling⟩ }) ∧
      (s.run.state ≠ .idle → s.run.needle = some n →
        exec (.assign [b, c0, c1, m0, m1, v0, v1]) s = .next (s.reply 0x40 .inUse .empty))) ∧
    (let changed : Needle → Head → NeedleState → Reply → State → Prop := fun n h v r t =>
       let e := s.needles.get n
       t = { s with
             needles := s.needles.set n { e with perHead := e.perHead.set h v }
             conditions := t.conditions, changes := t.changes, link := s.link.place r } ∧
       (e.perHead.get h = v → t.conditions = s.conditions ∧ t.changes = s.changes) ∧
       (e.perHead.get h ≠ v → s.conditionsSound → ∀ g : Head, t.causeOpen (.threadBreak g) =
         (s.causeOpen (.threadBreak g) && ((s.heads.get g).state.isBroken || t.anyNeedleBroken g)))
     (∀ (hb nb vb : Byte) (h : Head) (n : Needle) (v : NeedleState), headOf s.config hb = some h →
       needleOf s.config nb = some n → (vb = 0 ∧ v = .ready) ∨ (vb = 1 ∧ v = .empty) →
         (¬(v = .ready ∧ s.run.needle = some n ∧ (s.needles.get n).perHead.get h = .broken) →
           ∃ t, exec (.spool [hb, nb, vb]) s = .next t ∧ changed n h v ⟨0x42, .ok, .needleState v⟩ t) ∧
         (v = .ready → s.run.needle = some n → (s.needles.get n).perHead.get h = .broken →
           exec (.spool [hb, nb, vb]) s = .next (s.reply 0x42 .wrongState .empty))) ∧
     (∀ (hb : Byte) (h : Head), headOf s.config hb = some h →
       (∀ n, s.run.needle = some n → (s.heads.get h).meter < s.config.bobbinCapacity * 100 →
         ∃ t, exec (.mend [hb]) s = .next t ∧
           changed n h .ready ⟨0x43, .ok, .headState (s.heads.get h).state⟩ t) ∧
       (∀ n, s.run.needle = some n → s.config.bobbinCapacity * 100 ≤ (s.heads.get h).meter →
         exec (.mend [hb]) s = .next (s.reply 0x43 .bobbinSpent .empty)) ∧
       (s.run.needle = none → exec (.mend [hb]) s = .next (s.reply 0x43 .wrongState .empty))))

/-- CLEAR_NEEDLE makes an entry not valid and keeps its per-head states; it is refused for the current needle
while a run exists; a cleared entry matches no code; one that is not valid is left as it is (R115). -/
def Obligations.ClearNeedleRule : Prop :=
  ∀ (s : State) (b : Byte) (n : Needle), s.served → needleOf s.config b = some n →
    (s.run.state ≠ .idle → s.run.needle = some n →
      exec (.clearNeedle [b]) s = .next (s.reply 0x41 .inUse .empty)) ∧
    (s.run.state = .idle ∨ s.run.needle ≠ some n →
      ∃ t, exec (.clearNeedle [b]) s = .next t ∧
        t = { s with
              needles := s.needles.set n { thread := none, perHead := (s.needles.get n).perHead }
              link := s.link.place ⟨0x41, .ok, .empty⟩ } ∧
        (∀ c, t.entryMatches c n = false) ∧
        ((s.needles.get n).thread = none → t.needles = s.needles))

/-- SELECT_NEEDLE, the carriage's codes while it steps and while it is IDLE or settles, its step timeout, its settle
time and the shaft leaving rest, with no colour change in progress (R120, R121, R128, R129, R130). That a request for
the position where the carriage stands clears CARRIAGE_FAULT is log 14; that a search step which reads the target goes
on to the settle is log 27; that a change to the code that stands already has no effect is log 3. -/
def Obligations.CarriageMoves : Prop :=
  ∀ s : State, s.run.state = .idle ∨ s.run.state = .stopped → s.shaft.active = none →
    let at? : State → CarriageState → Option CarriageDir → Link → State := fun t c d l =>
      { t with carriage := { t.carriage with state := c, dir := d }, link := l }
    let done : Needle → State → Prop := fun n t =>
      t.run = { s.run with needle := some n } ∧ t.carriage.state = .idle ∧ t.frame = s.frame ∧
      t.shaft = s.shaft ∧ t.heads = s.heads ∧ t.needles = s.needles ∧ t.store = s.store ∧
      (s.conditionsSound → t.causeOpen .carriageFault = false)
    let failed : CarriageFault → Needle → State → Prop := fun f n t =>
      t.run = s.run ∧ t.carriage.state = .idle ∧ t.frame = s.frame ∧ t.shaft = s.shaft ∧ t.heads = s.heads ∧
      t.needles = s.needles ∧ t.store = s.store ∧
      ∃ c, t.condition? .carriageFault = some c ∧ c.state = .opened ∧ c.detail = .carriage f ∧
        c.needle = some n ∧ c.ordinal = s.run.ordinal ∧ c.position = none
    let kept : State → Prop := fun t => t.burst = s.burst ∧ t.lastGranted = s.lastGranted
    let toward : Needle → Needle → Needle → Prop := fun p n q =>
      (p.val < n.val → q.val = p.val + 1) ∧ (n.val < p.val → q.val + 1 = p.val)
    let dir : Needle → Needle → CarriageDir := fun p n => if p.val < n.val then .up else .down
    (∀ (b : Byte) (n : Needle), s.served → needleOf s.config b = some n → s.haltLine = false →
      s.shaft.atRest = true → s.shaft.command = 0 → s.carriage.state = .idle →
        let link := s.link.place ⟨0x33, .ok, .empty⟩
        (s.carriage.code.val = n.val + 1 →
          ∃ t, exec (.selectNeedle [b]) s = .next t ∧ done n t ∧ t.link = link ∧ kept t) ∧
        (∀ p, needleAt s.carriage.code = some p → p ≠ n → ∃ q, toward p n q ∧
          exec (.selectNeedle [b]) s = .next (at? s (.stepping n (some q)) (some (dir p n)) link)) ∧
        (s.carriage.code.val = 0 →
          exec (.selectNeedle [b]) s =
            .next (at? s (.stepping n none) (some (s.carriage.dir.getD .down)) link))) ∧
    (∀ (n q : Needle) (code : Fin 16), s.carriage.state = .stepping n (some q) → code ≠ s.carriage.code →
      let s1 : State := { s with carriage := { s.carriage with code := code } }
      (code.val = 0 → ∃ t, exec (.carriageCodeChange code) s = .next t ∧ State.upToGrant s1 t) ∧
      (code.val = q.val + 1 →
        let s2 : State := { s1 with carriage := { s1.carriage with last := some q } }
        (q = n → 0 < s.config.carriageSettle → ∃ t, exec (.carriageCodeChange code) s = .next t ∧
          State.upToGrant (at? s2 (.settling n) s.carriage.dir s.link) t) ∧
        (q = n → s.config.carriageSettle = 0 → ∃ t, exec (.carriageCodeChange code) s = .next t ∧ done n t ∧
          State.granted s.burst s t) ∧
        (q ≠ n → ∃ t r, exec (.carriageCodeChange code) s = .next t ∧ toward q n r ∧
          State.upToGrant (at? s2 (.stepping n (some r)) (some (dir q n)) s.link) t)) ∧
      (∀ p, needleAt code = some p → p ≠ q → s.carriage.last ≠ some p →
        ∃ t, exec (.carriageCodeChange code) s = .next t ∧ failed .wrongPosition n t ∧
          State.granted s.burst s t)) ∧
    (∀ code : Fin 16,
      (code = s.carriage.code → exec (.carriageCodeChange code) s = .next s) ∧
      (code ≠ s.carriage.code → s.carriage.state = .idle ∨ (∃ n, s.carriage.state = .settling n) →
        ∃ t, exec (.carriageCodeChange code) s = .next t ∧ State.upToGrant { s with
          carriage := { s.carriage with
            code := code, last := if code.val = 0 then s.carriage.last else needleAt code } } t)) ∧
    (∀ n expected, s.carriage.state = .stepping n expected →
      ∃ t, exec .carriageStepTimeout s = .next t ∧ failed .timeout n t ∧ kept t) ∧
    (∀ n, s.carriage.state = .settling n →
      (s.carriage.code.val = n.val + 1 → ∃ t, exec .carriageSettleEnd s = .next t ∧ done n t ∧
        State.granted s.burst s t) ∧
      (s.carriage.code.val ≠ n.val + 1 →
        ∃ t, exec .carriageSettleEnd s = .next t ∧ failed .wrongPosition n t ∧ State.granted s.burst s t)) ∧
    (∀ (n : Needle) (code : Fin 16), s.carriage.state = .stepping n none → code ≠ s.carriage.code →
      let s1 : State := { s with carriage := { s.carriage with code := code } }
      (code.val = 0 → ∃ t, exec (.carriageCodeChange code) s = .next t ∧ State.upToGrant s1 t) ∧
      (∀ p, needleAt code = some p →
        let s2 : State := { s1 with carriage := { s1.carriage with last := some p } }
        (p = n → 0 < s.config.carriageSettle → ∃ t, exec (.carriageCodeChange code) s = .next t ∧
          State.upToGrant (at? s2 (.settling n) s.carriage.dir s.link) t) ∧
        (p ≠ n → ∃ t r, exec (.carriageCodeChange code) s = .next t ∧ toward p n r ∧
          State.upToGrant (at? s2 (.stepping n (some r)) (some (dir p n)) s.link) t))) ∧
    (∀ (n : Needle) (expected : Option Needle) (i : Instr), s.carriage.state = .stepping n expected →
      s.shaft.atRest = true →
      (∃ count, i = .encoderCountChange count ∧ count ≠ s.shaft.angle) ∨
        s.shaft.crossed = false ∧ (i = .windowOpenCrossing ∨ i = .windowCloseCrossing) →
        ∃ t, exec i s = .next t ∧ t.run = s.run ∧ t.carriage = { s.carriage with state := .idle } ∧
          t.shaft.atRest = false ∧ t.needles = s.needles ∧ t.store = s.store ∧
          ∃ c, t.condition? .carriageFault = some c ∧ c.state = .opened ∧ c.detail = .carriage .shaftMoved ∧
            c.needle = some n ∧ c.ordinal = s.run.ordinal ∧ c.position = none)

/-- A colour change in progress: its end at the target, with the colour-change rule for each enabled head, the
THREAD_BREAK causes that it opens, the stops BREAK and NO_HEADS that it asks for, the hold with COLOUR_DONE without
auto_resume, and with it the run that goes on with the entry behind the COLOUR; its faults, the shaft leaving rest
among them, and a STOP, a stop line that becomes active or a quick stop that comes during it (R43, R95, R96, R121,
R122, R123, R124, R125, R126, R128, R144, R146, R160). That the grant decision follows the head of the queue is log 9,
that a burst of the feed is stale once the run is held log 30, and that a stop line which is active already and is said
to become active does nothing log 3. -/
def Obligations.ColourChange : Prop :=
  ∀ (s : State) (e : Entry) (rest : List Entry), s.run.state = .changing → s.queue = e :: rest →
    s.shaft.active = none → s.shaft.stopReq ≠ .quick →
    let held : Run → State → Prop := fun run t =>
      t.run = { run with state := .stopped, pendingStop := false } ∧ t.queue = [] ∧ t.feed.activity = .idle ∧
      t.shaft = { s.shaft with stopReq := .none } ∧ t.link.runChange = true
    let same : State → Prop := fun t =>
      t.carriage = { s.carriage with state := .idle } ∧ t.frame = s.frame ∧ t.config = s.config ∧
      t.store = s.store ∧ t.designs = s.designs ∧ t.needles = s.needles ∧ t.enable = s.enable
    let left : StopReason → Run := fun reason => { s.run with reason := reason, resume := some e.pos }
    let failed : CarriageFault → Needle → State → Prop := fun f n t =>
      held (left .carriageFault) t ∧ same t ∧ t.heads = s.heads ∧
      ∃ c, t.condition? .carriageFault = some c ∧ c.state = .opened ∧ c.detail = .carriage f ∧
        c.needle = some n ∧ c.ordinal = s.run.ordinal ∧ c.position = some e.pos
    let linked : Byte → State → State := fun code t => { t with link := s.link.place ⟨code, .ok, .empty⟩ }
    let onHold : State → Prop := State.granted s.idledBurst s
    (∀ n : Needle, s.carriage.state = .settling n → s.carriage.code.val = n.val + 1 →
        let ready : Head → Prop := fun h => (s.needles.get n).perHead.get h = .ready
        let mend := min (s.run.ordinal + 1) 4294967295
        let after : Head → HeadRecord := fun h =>
          let r := s.heads.get h
          let sews : HeadRecord := { r with state := .sewing, balance := 0, grace := 2 }
          let drops : HeadRecord := { r with state := .broken mend, balance := 0 }
          if s.enabled h = false then r
          else match r.state with
            | .off => r
            | .idle => r
            | .sewing => if ready h then sews else drops
            | .waiting _ => if ready h then sews else drops
            | .broken _ => if ready h then sews else { r with state := .broken mend }
        let sound : HeadState → Prop := fun x => x = .sewing ∨ ∃ m, x = .waiting m
        let lost : Prop := ∃ h, s.enabled h = true ∧ ¬ready h ∧ sound (s.heads.get h).state
        let noneLeft : Prop := ∀ h, ¬sound (after h).state
        let opened : State → Prop := fun t =>
          ∀ h, s.enabled h = true → ¬ready h →
            sound (s.heads.get h).state ∨ (∃ m, (s.heads.get h).state = .broken m) →
            ∃ c, t.condition? (.threadBreak h) = some c ∧ c.state = .opened ∧
              c.detail = .threadBreak .needleNotReady ∧ c.needle = some n ∧ c.ordinal = s.run.ordinal ∧
              c.position = some e.pos
        let goesOn : Prop := s.run.pendingStop = false ∧ ¬(lost ∧ s.config.breakPolicy = .stop) ∧ ¬noneLeft
        let done : Run :=
          { s.run with needle := some n, blockStart := s.run.ordinal, blockEnd := false, chain := some e.pos }
        let onward : Option Position := match rest with | x :: _ => some x.pos | [] => some s.feed.fetch
        let tdc : Prop := s.shaft.state = .still ∧ s.atTdc = true ∧ s.frame.state.isMoving = false
        ∃ t, exec .carriageSettleEnd s = .next t ∧
          (¬goesOn ∨ s.config.autoResume = false → onHold t) ∧
          (s.run.pendingStop = true → held { done with resume := onward } t) ∧
          (s.run.pendingStop = false → lost → s.config.breakPolicy = .stop →
            held { done with resume := onward, reason := .breakStop } t) ∧
          (s.run.pendingStop = false → ¬(lost ∧ s.config.breakPolicy = .stop) → noneLeft →
            held { done with resume := onward, reason := .noHeads } t) ∧
          (goesOn → s.config.autoResume = false → held { done with resume := onward, reason := .colourDone } t) ∧
          (goesOn → s.config.autoResume = true → rest = [] ∨ ¬tdc →
            t.run = { done with state := .running } ∧ t.queue = rest ∧ t.shaft = s.shaft ∧
            State.granted s.burst s t) ∧
          (¬goesOn ∨ s.config.autoResume = false ∨ rest = [] ∨ ¬tdc → same t ∧ opened t ∧
            (∀ h, t.heads.get h = after h) ∧
            (s.conditionsSound → t.causeOpen .carriageFault = false ∧
              ∀ c, s.condition? .needleUnmatched = some c → c.position = some e.pos →
                t.causeOpen .needleUnmatched = false)) ∧
          (∀ x rest', goesOn → s.config.autoResume = true → tdc → rest = x :: rest' →
            (x.kind = .pause →
              held { done with chain := some x.pos, reason := .pause,
                               resume := match rest' with | y :: _ => some y.pos | [] => some s.feed.fetch } t ∧
              same t ∧ opened t ∧ onHold t ∧ ∀ h, t.heads.get h = after h) ∧
            (x.isMovement = true ∨ x.kind = .trim → x.limit = false → x.stationary = false → s.haltLine = false →
              opened t ∧ State.begun x rest'
                { s with
                  run := { done with state := .running }, carriage := { s.carriage with state := .idle }
                  heads := s.heads.mapIdx fun h _ => after h
                  shaft := { s.shaft with vPrev := s.config.speedMin } } t))) ∧
    (∀ n, s.carriage.state = .settling n → s.carriage.code.val ≠ n.val + 1 →
      ∃ t, exec .carriageSettleEnd s = .next t ∧ failed .wrongPosition n t ∧ onHold t) ∧
    (∀ n q, s.carriage.state = .stepping n q →
      ∃ t, exec .carriageStepTimeout s = .next t ∧ failed .timeout n t ∧ t.burst = s.idledBurst ∧
        t.lastGranted = s.lastGranted) ∧
    (s.stopLine = true → exec .stopLineActive s = .next s) ∧
    (s.stopLine = false →
      (s.run.pendingStop = false → ∃ t, exec .stopLineActive s = .next t ∧ State.upToGrant
        { s with stopLine := true, run := { s.run with pendingStop := true, reason := .stopLine } } t) ∧
      (s.run.pendingStop = true → ∃ t, exec .stopLineActive s = .next t ∧
        State.upToGrant { s with stopLine := true } t)) ∧
    (s.served →
      (s.run.pendingStop = false → ∃ t, exec (.stop []) s = .next t ∧ State.upToGrant (linked 0x22
        { s with run := { s.run with pendingStop := true, reason := .hostStop } }) t) ∧
      (s.run.pendingStop = true → ∃ t, exec (.stop []) s = .next t ∧ State.upToGrant (linked 0x22 s) t) ∧
      (∀ n, s.carriage.state = .settling n → ∃ t, exec (.quickStop []) s = .next t ∧
        held (left .quickStop) t ∧ same t ∧ t.heads = s.heads ∧ onHold t) ∧
      (∀ n q, s.carriage.state = .stepping n q → ∃ t, exec (.quickStop []) s = .next t ∧
        State.upToGrant (linked 0x23
          { s with run := { s.run with pendingStop := true, reason := .quickStop } }) t)) ∧
    (∀ (n q : Needle) (code : Fin 16), s.carriage.state = .stepping n (some q) → code ≠ s.carriage.code →
      code.val = q.val + 1 → s.run.pendingStop = true → s.run.reason = .quickStop →
        ∃ t, exec (.carriageCodeChange code) s = .next t ∧ held (left .quickStop) t ∧ onHold t ∧
          t.carriage = { s.carriage with state := .idle, code := code, last := some q } ∧ t.heads = s.heads) ∧
    (∀ (n : Needle) (expected : Option Needle) (count : BitVec 10), s.carriage.state = .stepping n expected →
      s.shaft.atRest = true → s.shaft.state = .still → count ≠ s.shaft.angle →
        ∃ t, exec (.encoderCountChange count) s = .next t ∧
          t.run = { left .carriageFault with state := .stopped, pendingStop := false } ∧ t.queue = [] ∧
          t.feed.activity = .idle ∧ t.link.runChange = true ∧
          t.carriage = { s.carriage with state := .idle } ∧ t.needles = s.needles ∧ t.shaft.state = .still ∧
          t.shaft.angle = count ∧ t.shaft.atRest = false ∧ t.shaft.stopReq = .none ∧
          ∃ c, t.condition? .carriageFault = some c ∧ c.state = .opened ∧ c.detail = .carriage .shaftMoved ∧
            c.needle = some n ∧ c.ordinal = s.run.ordinal ∧ c.position = some e.pos)

/-! ## The heads -/

/-- HEAD_ENABLE sets the mask and treats each head by its old state and its new bit; BOBBIN_CHANGED sets the
meter to 0 and clears BOBBIN_LOW; a thread pulse lowers the balance of a SEWING head alone (R134, R139, R150, R151).
That a disabled head's latch goes off at once in every state, also while SHAFT_TO_TDC still turns the shaft, is the
model's choice against the last sentence of R136, log 36 (DESIGN CHOICE); that the THREAD_BREAK test of R151 is made for
every head, and not for the heads that the request changed alone, is log 31 (DEDUCED), and that it counts a needle
state above needles_installed too is log 43 (DESIGN CHOICE). -/
def Obligations.HeadRequests : Prop :=
  ∀ s : State,
    (∀ m0 m1 : Byte, s.served → s.run.state = .idle ∨ s.run.state = .stopped → s.shaft.pendingFlag = false →
      (∀ i, i < 16 → (half m0 m1).getLsbD i = true → i < s.config.headsInstalled) →
        ∃ t, exec (.headEnable [m0, m1]) s = .next t ∧
          t = { s with
                enable := half m0 m1, heads := t.heads, conditions := t.conditions, changes := t.changes
                link := s.link.place ⟨0x44, .ok, .mask (half m0 m1)⟩ } ∧
          (∀ h : Head,
            let r := s.heads.get h
            t.heads.get h =
              if (half m0 m1).getLsbD h.val then (if r.state = .off then { r with state := .idle } else r)
              else if r.state = .off then r
              else { r with state := .off, balance := 0, grace := 0, looseQuiet := none, latch := false }) ∧
          (s.conditionsSound → ∀ h : Head, (half m0 m1).getLsbD h.val = false → (s.heads.get h).state ≠ .off →
            t.causeOpen (.threadLoose h) = false) ∧
          (s.conditionsSound → ∀ h : Head, t.causeOpen (.threadBreak h) =
            (s.causeOpen (.threadBreak h) && ((t.heads.get h).state.isBroken || s.anyNeedleBroken h)))) ∧
    (∀ (b : Byte) (h : Head), s.served → headOf s.config b = some h →
      ∃ t, exec (.bobbinChanged [b]) s = .next t ∧
        t = { s with
              heads := s.heads.set h { s.heads.get h with meter := 0 }
              conditions := t.conditions, changes := t.changes, link := s.link.place ⟨0x45, .ok, .empty⟩ } ∧
        (s.conditionsSound → t.causeOpen (.bobbinLow h) = false) ∧
        (s.causeOpen (.bobbinLow h) = false → t.conditions = s.conditions ∧ t.changes = s.changes)) ∧
    (∀ h : Head,
      ((s.heads.get h).state = .sewing → exec (.threadPulse h) s = .next { s with
        heads := s.heads.set h { s.heads.get h with
          balance := max (-2048) ((s.heads.get h).balance - s.config.pulseLength) } }) ∧
      ((s.heads.get h).state ≠ .sewing → exec (.threadPulse h) s = .next s))

/-- A head of the penetrating set at the completion point of a STITCH or a TRIM: its charge, the grace that skips the
tests and that a TRIM sets anew, the loose-quiet count, a sound outcome, the bobbin's warning, a loose outcome, and a
break with its mend ordinal, needle state, condition and stop request; and the completion point itself: every head of
the set is charged so, no other head is, a TRIM's trimmers go off, the record is no longer in progress or pending, and
a stop is requested by a break or when no sound head is left (R93, R107, R137, R138, R140 to R144, R150; that the test
of R144 is made at each completion that charges heads is log 31). -/
def Obligations.ThreadCharge : Prop :=
  (∀ (s : State) (h : Head) (k : RevKind) (demand : Nat),
    (∃ dx dy : Int, k = .stitch dx dy ∧ demand =
      max dx.natAbs dy.natAbs + min dx.natAbs dy.natAbs / 2 + s.config.loopAllowance) ∨
    k = .trim ∧ demand = s.config.loopAllowance →
    let r := s.heads.get h
    let balance := min 2047 (r.balance + demand)
    let meter := r.meter + demand
    let grace := if k = .trim then 2 else r.grace - 1
    let quiet : Option Nat := r.looseQuiet.bind fun n => if n ≤ 1 then none else some (n - 1)
    let charged : HeadRecord :=
      { r with balance := balance, meter := meter, grace := grace, looseQuiet := quiet }
    let t := s.chargeHead k h
    let cfg := s.config
    let capacity := cfg.bobbinCapacity * 100
    let warning := capacity * cfg.bobbinWarnPercent / 100
    let loose : Prop := balance < -(cfg.looseThreshold : Int)
    let sound : Prop :=
      t = { s with heads := s.heads.set h charged, conditions := t.conditions, changes := t.changes } ∧
      (r.looseQuiet = none ∨ quiet ≠ none → t.condition? (.threadLoose h) = s.condition? (.threadLoose h)) ∧
      (r.looseQuiet ≠ none → quiet = none → s.conditionsSound → t.causeOpen (.threadLoose h) = false)
    let broken : BreakCause → Prop := fun cause =>
      (t.heads.get h).state =
        .broken (max (min (s.run.blockStart + 1) 4294967295) (s.run.ordinal - cfg.mendLead)) ∧
      (t.heads.get h).balance = 0 ∧ (t.heads.get h).meter = meter ∧
      (t.heads.get h).grace = (if k = .trim then 2 else r.grace) ∧
      (∀ n, s.run.needle = some n → (t.needles.get n).perHead.get h = .broken) ∧
      (∃ c, t.condition? (.threadBreak h) = some c ∧ c.state = .opened ∧ c.detail = .threadBreak cause ∧
        c.needle = s.run.needle ∧ c.ordinal = s.run.ordinal ∧ c.position = s.run.chain) ∧
      (s.run.state = .running → s.shaft.stopReq = .none → cfg.breakPolicy = .stop →
        t.run.state = .stopping ∧ t.run.reason = .breakStop ∧ t.run.pendingStop = true ∧
        t.shaft.stopReq = .controlled) ∧
      (cfg.breakPolicy = .runOn ∨ s.run.state = .stopped → t.run = s.run ∧ t.shaft = s.shaft)
    let warned : Prop := s.causeOpen (.bobbinLow h) = false →
      ∃ c, t.condition? (.bobbinLow h) = some c ∧ c.state = .opened ∧ c.detail = .meter meter ∧
        c.needle = s.run.needle ∧ c.ordinal = s.run.ordinal ∧ c.position = none
    let looseFound : Prop := (t.heads.get h).looseQuiet = some cfg.looseQuiet ∧ (t.heads.get h).balance = 0 ∧
      ∃ c, t.condition? (.threadLoose h) = some c ∧ c.state = .opened ∧ c.needle = s.run.needle ∧
        c.ordinal = s.run.ordinal ∧ c.position = s.run.chain
    (∀ g, g ≠ h → t.heads.get g = s.heads.get g) ∧ t.store = s.store ∧ t.queue = s.queue ∧ t.frame = s.frame ∧
    (0 < r.grace → sound ∧ t.condition? (.bobbinLow h) = s.condition? (.bobbinLow h)) ∧
    (r.grace = 0 → balance ≤ cfg.breakThreshold → ¬loose → meter < capacity → sound ∧
      (meter < warning ∨ s.causeOpen (.bobbinLow h) = true →
        t.condition? (.bobbinLow h) = s.condition? (.bobbinLow h)) ∧
      (warning ≤ meter → warned)) ∧
    (r.grace = 0 → cfg.breakThreshold < balance → broken .upper) ∧
    (r.grace = 0 → balance ≤ cfg.breakThreshold → capacity ≤ meter → broken .bobbin ∧ (loose → looseFound)) ∧
    (r.grace = 0 → balance ≤ cfg.breakThreshold → loose → meter < capacity →
      looseFound ∧ (t.heads.get h).state = r.state ∧ (t.heads.get h).meter = meter ∧ t.run = s.run ∧
      t.shaft = s.shaft ∧ (warning ≤ meter → warned))) ∧
  (∀ (s : State) (a : Active), s.shaft.active = some a →
    let t := s.completeRecord
    let one : Head → State := fun h => s.chargeHead a.kind h
    let breaks : Prop := ∃ h, a.pen.get h = true ∧ (one h).run.state = .stopping
    t = { s with
          heads := t.heads, needles := t.needles, conditions := t.conditions, changes := t.changes
          run := { s.run with state := t.run.state, pendingStop := t.run.pendingStop, reason := t.run.reason }
          shaft := { s.shaft with active := none, pendingFlag := false, stopReq := t.shaft.stopReq } } ∧
    (a.kind = .jump → t = { s with shaft := { s.shaft with active := none, pendingFlag := false } }) ∧
    (a.kind ≠ .jump →
      (∀ h,
        let r := if a.pen.get h then (one h).heads.get h else s.heads.get h
        t.heads.get h = { r with trimmer := if a.kind = .trim then false else r.trimmer }) ∧
      (∀ n, (t.needles.get n).thread = (s.needles.get n).thread ∧ ∀ h, (t.needles.get n).perHead.get h =
        if a.pen.get h then ((one h).needles.get n).perHead.get h else (s.needles.get n).perHead.get h) ∧
      (∀ h, ∀ k ∈ [Key.threadBreak h, .threadLoose h, .bobbinLow h],
        t.condition? k = if a.pen.get h then (one h).condition? k else s.condition? k) ∧
      (s.run.state = .running → s.shaft.stopReq = .none →
        (breaks → t.run = { s.run with state := .stopping, pendingStop := true, reason := .breakStop } ∧
          t.shaft.stopReq = .controlled) ∧
        (¬breaks → (∀ h, (t.heads.get h).state.isSound = false) →
          t.run = { s.run with state := .stopping, pendingStop := true, reason := .noHeads } ∧
          t.shaft.stopReq = .controlled) ∧
        (¬breaks → (∃ h, (t.heads.get h).state.isSound = true) →
          t.run = s.run ∧ t.shaft.stopReq = s.shaft.stopReq)) ∧
      (s.run.state = .stopped ∨ s.run.state = .stopping ∧ s.shaft.stopReq ≠ .none →
        t.run = s.run ∧ t.shaft.stopReq = s.shaft.stopReq)))

/-- The placement of an enabled head at START and RESUME, row by row; the rejoining of a WAITING head; the
colour-change rule for an enabled head, row by row (R140, R146, R147, R148). -/
def Obligations.PlacementTable : Prop :=
  (∀ (s : State) (h : Head) (position : Option Position),
    let r := s.heads.get h
    let p := s.run.ordinal
    let f := s.run.frontier
    let beyond := min (f + 1) 4294967295
    let t := s.placeHead position h
    let sews : Prop := t = { s with heads := s.heads.set h { r with state := .sewing, balance := 0, grace := 2 } }
    let waits : Nat → Prop := fun m =>
      t = { s with heads := s.heads.set h { r with state := .waiting m, balance := 0, grace := 2 } }
    let drops : Nat → Prop := fun m =>
      t = { s with
            heads := s.heads.set h { r with state := .broken m, balance := 0 }
            conditions := t.conditions, changes := t.changes } ∧
      ∃ c, t.condition? (.threadBreak h) = some c ∧ c.state = .opened ∧
        c.detail = .threadBreak .needleNotReady ∧ c.needle = s.run.needle ∧ c.ordinal = p ∧ c.position = position
    (s.readyNow h = true →
      (∀ m, r.state = .broken m → (m ≤ p + 1 → sews) ∧ (p + 1 < m → waits m)) ∧
      (∀ m, r.state = .waiting m → (m ≤ p + 1 → sews) ∧ (p + 1 < m → waits m)) ∧
      (r.state = .idle ∨ r.state = .sewing → (p < f → waits beyond) ∧ (f ≤ p → sews))) ∧
    (s.readyNow h = false →
      (∀ m, r.state = .broken m → t = { s with heads := s.heads.set h { r with balance := 0 } }) ∧
      (∀ m, r.state = .waiting m → drops m) ∧
      (r.state = .idle ∨ r.state = .sewing → drops beyond))) ∧
  (∀ (r : HeadRecord) (q : Nat),
    (∀ m, r.state = .waiting m → m ≤ q → r.rejoin q = { r with state := .sewing, balance := 0, grace := 2 }) ∧
    ((∀ m, r.state = .waiting m → q < m) → r.rejoin q = r)) ∧
  (∀ (s : State) (h : Head) (position : Option Position), s.run.state = .changing →
    let r := s.heads.get h
    let t := s.colourHead position h
    let mend := min (s.run.blockStart + 1) 4294967295
    let opened : Prop := ∃ c, t.condition? (.threadBreak h) = some c ∧ c.state = .opened ∧
      c.detail = .threadBreak .needleNotReady ∧ c.needle = s.run.needle ∧ c.ordinal = s.run.ordinal ∧
      c.position = position
    let drops : HeadRecord → Run → Prop := fun x run => opened ∧
      t = { s with heads := s.heads.set h x, run := run, conditions := t.conditions, changes := t.changes }
    let sews : Prop := (∃ m, r.state = .waiting m) ∨ r.state = .sewing
    (s.readyNow h = true → sews ∨ (∃ m, r.state = .broken m) →
      t = { s with heads := s.heads.set h { r with state := .sewing, balance := 0, grace := 2 } }) ∧
    (s.readyNow h = false →
      (sews → s.config.breakPolicy = .stop → s.run.pendingStop = false →
        drops { r with state := .broken mend, balance := 0 }
          { s.run with pendingStop := true, reason := .breakStop }) ∧
      (sews → s.config.breakPolicy = .runOn ∨ s.run.pendingStop = true →
        drops { r with state := .broken mend, balance := 0 } s.run) ∧
      (∀ m, r.state = .broken m → drops { r with state := .broken mend } s.run)) ∧
    (r.state = .off → t = s))

/-! ## Run control -/

/-- An accepted START and an accepted RESUME set the run up, put the feed at work, place each enabled head by its row
of R147, leave the other heads, and begin nothing of themselves; with no head SEWING or WAITING after the placement a
controlled stop with the reason NO_HEADS is taken at rest, before any record. RESUME first makes the residual move,
which stays present while it is made (that clause is the model's reading, log 29) (R43, R89, R105, R147, R157, R158,
R162, R163). That the grant decision follows what is done at rest is log 9, that a burst of the feed is stale once the
run is held log 30, and that the fetch position stays for a RESUME with no resume point, which R51 excludes, log 32. -/
def Obligations.StartAndResume : Prop :=
  ∀ s : State, s.served → s.haltLine = false → s.atTdc = true → s.queue = [] → s.shaft.stopReq = .none →
    s.run.pendingStop = false → s.shaft.active = none →
    let placed : Needle → Nat → Nat → Option Position → State → Prop := fun n p f position t =>
      (∀ h, s.enabled h = false → t.heads.get h = s.heads.get h) ∧
      ∀ h, s.enabled h = true →
        let r := s.heads.get h
        let beyond := min (f + 1) 4294967295
        let sews : Prop := t.heads.get h = { r with state := .sewing, balance := 0, grace := 2 }
        let waits : Nat → Prop := fun m => t.heads.get h = { r with state := .waiting m, balance := 0, grace := 2 }
        let drops : Nat → Prop := fun m =>
          t.heads.get h = { r with state := .broken m, balance := 0 } ∧
          ∃ c, t.condition? (.threadBreak h) = some c ∧ c.state = .opened ∧
            c.detail = .threadBreak .needleNotReady ∧ c.needle = some n ∧ c.ordinal = p ∧ c.position = position
        ((s.needles.get n).perHead.get h = .ready →
          (∀ m, r.state = .broken m → (m ≤ p + 1 → sews) ∧ (p + 1 < m → waits m)) ∧
          (∀ m, r.state = .waiting m → (m ≤ p + 1 → sews) ∧ (p + 1 < m → waits m)) ∧
          (r.state = .idle ∨ r.state = .sewing → (p < f → waits beyond) ∧ (f ≤ p → sews))) ∧
        ((s.needles.get n).perHead.get h ≠ .ready →
          (∀ m, r.state = .broken m → t.heads.get h = { r with balance := 0 }) ∧
          (∀ m, r.state = .waiting m → drops m) ∧
          (r.state = .idle ∨ r.state = .sewing → drops beyond)) ∧
        (r.state = .off → t.heads.get h = r)
    let noneSound : Needle → Prop := fun n =>
      (∀ h, s.enabled h = true → (s.needles.get n).perHead.get h ≠ .ready) ∧
      ∀ h, s.enabled h = false → (s.heads.get h).state.isSound = false
    let same : State → Prop := fun t =>
      t.queue = [] ∧ t.config = s.config ∧ t.store = s.store ∧ t.designs = s.designs ∧ t.needles = s.needles ∧
      t.enable = s.enable ∧ t.carriage = s.carriage
    let onHold : State → Prop := State.granted s.idledBurst s
    let rested : Shaft := { s.shaft with vPrev := s.config.speedMin }
    let refetch : Position := s.run.resume.getD s.feed.fetch
    (∀ (b : Byte) (d : Design) (x : DesignBody) (net : Option Point) (p : Point) (n : Needle) (g : Head),
      designOf b = some d → s.run.state = .idle → s.designs.get d = .ready x net → x.attrs.startable = true →
      s.frame.state = .known p → s.config.boxInField p x.extent = true → s.carriagePosition = some n →
      s.enabled g = true →
        let first : Position := ⟨⟨d, 0, 1, 1⟩, []⟩
        let begun : Run :=
          { s.run with
            state := .running, reason := .none, result := .none, needle := some n, blockEnd := false
            chain := some first, visited := [d], ordinal := 0, frontier := 0, blockStart := 0 }
        ((s.needles.get n).perHead.get g = .ready → (s.heads.get g).state ≠ .off →
          ∃ t, exec (.start [b]) s = .next t ∧ t.run = begun ∧
            t.feed = { activity := .filling, blocked := false, fetch := first } ∧ t.shaft = rested ∧
            t.frame = s.frame ∧ t.link = s.link.place ⟨0x20, .ok, .empty⟩ ∧ same t ∧
            placed n 0 0 (some first) t ∧ State.granted s.burst s t) ∧
        (noneSound n → s.shaft.state = .still →
          ∃ t, exec (.start [b]) s = .next t ∧
            t.run = { begun with state := .stopped, reason := .noHeads, resume := some first } ∧
            t.feed = { activity := .idle, blocked := false, fetch := first } ∧ t.shaft = rested ∧
            t.frame = s.frame ∧ t.link = { s.link.place ⟨0x20, .ok, .empty⟩ with runChange := true } ∧ same t ∧
            placed n 0 0 (some first) t ∧ onHold t)) ∧
    (∀ (p : Point) (n : Needle) (g : Head), s.run.state = .stopped ∨ s.run.state = .halted →
      s.frame.state = .known p → s.carriagePosition = some n → s.run.needle = some n → s.enabled g = true →
        let moves : State → Prop := fun t =>
          ∀ r, s.frame.residual = some r → r ≠ ⟨0, 0⟩ →
            ∃ m, t.frame.state = .moving m ∧ m.kind = .residual ∧ m.start = p ∧ m.disp = r ∧ m.issued = 0 ∧
              m.time = s.config.rampAllowance + max r.x.natAbs r.y.natAbs * s.config.stepPeriod ∧
              t.frame.residual = some r
        ((s.needles.get n).perHead.get g = .ready → (s.heads.get g).state ≠ .off →
          ∃ t, exec (.resume []) s = .next t ∧
            t.run = { s.run with state := .running, reason := .none, resume := none } ∧
            t.feed = { activity := .filling, blocked := false, fetch := refetch } ∧ t.shaft = rested ∧
            t.link = s.link.place ⟨0x21, .ok, .empty⟩ ∧ same t ∧
            placed n s.run.ordinal s.run.frontier s.run.resume t ∧ State.granted s.burst s t ∧
            (s.frame.residual = none → t.frame = s.frame) ∧ moves t) ∧
        (noneSound n →
          ∃ t, exec (.resume []) s = .next t ∧ same t ∧
            placed n s.run.ordinal s.run.frontier s.run.resume t ∧
            (s.frame.residual = none → s.shaft.state = .still →
              t.run = { s.run with state := .stopped, reason := .noHeads, resume := some refetch } ∧
              t.feed = { activity := .idle, blocked := false, fetch := refetch } ∧ t.shaft = rested ∧
              t.frame = s.frame ∧ t.link = { s.link.place ⟨0x21, .ok, .empty⟩ with runChange := true } ∧
              onHold t) ∧
            (∀ r, s.frame.residual = some r → r ≠ ⟨0, 0⟩ →
              t.run = { s.run with state := .stopping, reason := .noHeads, resume := none, pendingStop := true } ∧
              t.feed = { activity := .filling, blocked := false, fetch := refetch } ∧
              t.shaft = { rested with stopReq := .controlled } ∧ t.link = s.link.place ⟨0x21, .ok, .empty⟩ ∧
              State.granted s.burst s t ∧ moves t)))

/-- STOP, QUICK_STOP and the stop line by the run state, and ABORT of a held run. While the run sews: a controlled stop
is requested, taken at once at rest at TDC when the head of the queue leaves no other row to take, and not requested
again; a quick stop overrides it, brakes a shaft that turns, and stops the run at once at rest, or when the move in
flight completes. In STOPPED and HALTED neither has an effect, and a record pending completion stays pending; nor has
the stop line in IDLE, or where it is active already. ABORT is refused in every other run state; it discards a pending
record, and a shaft that SHAFT_TO_TDC drives and that rests in the band is then STILL at TDC. A JUMP cut short completes
once the shaft is at rest with no move in flight, in whatever run state (R43, R92, R95, R104, R105, R106, R107, R110,
R152, R159, R160, R161, R164, R166). The model's readings: a shaft which turns or parks and has not left rest yet is
STILL at once (log 16); ABORT turns the trimmers off (log 37), and a latch at rest goes off in it (log 15); the grant
decision follows the head of the queue (log 9), and a burst of the feed is stale once the run is held (log 30); a stop
line that is active already and is said to become active does nothing (log 3). -/
def Obligations.StopRequests : Prop :=
  ∀ s : State,
    let stopping : StopReason → StopRequest → State := fun reason request =>
      { s with
        run := { s.run with state := .stopping, pendingStop := true, reason := reason }
        shaft := { s.shaft with stopReq := request } }
    let linked : Byte → State → State := fun code t => { t with link := s.link.place ⟨code, .ok, .empty⟩ }
    let held : Prop := s.run.state = .stopped ∨ s.run.state = .halted
    let sews : Prop := s.run.state = .running ∨ s.run.state = .stopping
    let still : Prop := s.shaft.state = .still ∧ s.shaft.atRest = true
    let stopped : StopReason → Shaft → State → Prop := fun reason sh t =>
      t.run = { s.run with
                state := .stopped, pendingStop := false, reason := reason
                resume := match s.queue with | e :: _ => some e.pos | [] => some s.feed.fetch } ∧
      t.shaft = { sh with stopReq := .none } ∧ t.queue = [] ∧ t.feed.activity = .idle ∧ t.link.runChange = true ∧
      t.frame = s.frame ∧ t.needles = s.needles ∧ t.carriage = s.carriage ∧ t.conditions = s.conditions ∧
      t.config = s.config ∧ t.store = s.store ∧ t.designs = s.designs ∧ State.granted s.idledBurst s t
    let moving : Prop := s.frame.state.isMoving = true
    let cutJump : Prop := still ∧ ¬moving ∧ ∃ a, s.shaft.active = some a ∧ a.kind = .jump
    let ripe : Prop := still ∧ s.atTdc = true ∧ s.shaft.active = none ∧
      (s.queue = [] ∨ ∃ e rest, s.queue = e :: rest ∧ (e.isMovement = true ∨ e.kind = .trim) ∧ e.limit = false)
    let controlled : Instr → StopReason → (State → State) → Prop := fun i reason after =>
      (s.shaft.stopReq = .none →
        (¬still ∨ moving →
          ∃ t, exec i s = .next t ∧ State.upToGrant (after (stopping reason .controlled)) t) ∧
        (ripe → s.frame.state.isMoving = false →
          ∃ t, exec i s = .next t ∧ stopped reason s.shaft t ∧ t.heads = s.heads)) ∧
      (s.run.state = .stopping → s.shaft.stopReq ≠ .none → ¬still ∨ moving →
        ∃ t, exec i s = .next t ∧ State.upToGrant (after s) t)
    let unchanged : Instr → (State → State) → Prop := fun i after =>
      (¬cutJump → ∃ t, exec i s = .next t ∧ State.upToGrant (after s) t) ∧
      (cutJump → ∃ t, exec i s = .next t ∧
        State.upToGrant (after { s with shaft := { s.shaft with active := none } }) t)
    (s.served →
      (s.run.state = .idle → exec (.stop []) s = .next (s.reply 0x22 .wrongState .empty) ∧
        exec (.quickStop []) s = .next (s.reply 0x23 .wrongState .empty)) ∧
      (sews → controlled (.stop []) .hostStop (linked 0x22)) ∧
      (sews → s.shaft.stopReq = .quick → ¬still ∨ moving →
        ∃ t, exec (.quickStop []) s = .next t ∧ State.upToGrant (linked 0x23 s) t) ∧
      (sews → s.shaft.stopReq ≠ .quick →
        let s1 := stopping .quickStop .quick
        let turns : Prop := s.shaft.state = .turning ∨ s.shaft.state = .parking
        (turns → s.shaft.atRest = false → ∃ t, exec (.quickStop []) s = .next t ∧ State.upToGrant (linked 0x23
          { s1 with shaft := { s1.shaft with state := .braking, command := 0 } }) t) ∧
        (¬turns → ¬still → ∃ t, exec (.quickStop []) s = .next t ∧ State.upToGrant (linked 0x23 s1) t) ∧
        (still → ∃ t, exec (.quickStop []) s = .next t ∧ t.heads = s.heads ∧
          (s.frame.state.isMoving = true → State.upToGrant (linked 0x23 s1) t) ∧
          (s.frame.state.isMoving = false → (∀ a, s.shaft.active = some a → a.kind ≠ .jump) →
            stopped .quickStop s.shaft t) ∧
          (s.frame.state.isMoving = false → (∃ a, s.shaft.active = some a ∧ a.kind = .jump) →
            stopped .quickStop { s.shaft with active := none } t)) ∧
        (turns → s.shaft.atRest = true →
          let pends : Bool := match s.shaft.active with
            | some a => decide (a.kind ≠ .jump)
            | none => false
          let rested : Shaft :=
            { s1.shaft with
              state := .still, command := 0, vPrev := s.config.speedMin, backoff := false, pendingFlag := pends }
          ∃ t, exec (.quickStop []) s = .next t ∧
            (∀ h, t.heads.get h = { s.heads.get h with latch := (s.heads.get h).latch && pends }) ∧
            (s.frame.state.isMoving = true →
              State.upToGrant (linked 0x23 { s1 with shaft := rested, heads := t.heads }) t) ∧
            (s.frame.state.isMoving = false →
              stopped .quickStop { rested with active := if pends then s.shaft.active else none } t))) ∧
      (held → unchanged (.stop []) (linked 0x22) ∧ unchanged (.quickStop []) (linked 0x23)) ∧
      (¬held → exec (.abort []) s = .next (s.reply 0x24 .wrongState .empty)) ∧
      (held →
        ∃ t, exec (.abort []) s = .next t ∧
          t.run = { s.run with state := .idle, result := .aborted, blockEnd := false, pendingStop := false
                               chain := none, visited := [], resume := none } ∧
          t.queue = [] ∧ t.feed.activity = .idle ∧ t.frame = { s.frame with residual := none } ∧
          (let atBand : Prop := inBand s.config s.shaft.angle = true ∧
             (s.shaft.state = .parking ∨ s.shaft.state = .positioning)
           t.shaft = { s.shaft with
             active := none, pendingFlag := false, stopReq := .none
             command := if atBand then 0 else s.shaft.command
             state := if atBand ∧ s.shaft.atRest = true then .still else s.shaft.state }) ∧
          t.link = { s.link with runChange := true }.place ⟨0x24, .ok, .empty⟩ ∧
          (∀ h, (t.heads.get h).state = (if (s.heads.get h).state = .off then .off else .idle) ∧
            (t.heads.get h).balance = 0 ∧ (t.heads.get h).grace = 0 ∧ (t.heads.get h).looseQuiet = none ∧
            (t.heads.get h).meter = (s.heads.get h).meter ∧ (t.heads.get h).trimmer = false ∧
            (t.heads.get h).latch = ((s.heads.get h).latch && !s.shaft.atRest)) ∧
          t.config = s.config ∧ t.store = s.store ∧ t.designs = s.designs ∧ t.needles = s.needles ∧
          t.burst = s.idledBurst ∧ t.lastGranted = s.lastGranted ∧
          (s.conditionsSound → t.causeOpen .frameLimit = false ∧ t.causeOpen .recordFault = false ∧
            t.causeOpen .needleUnmatched = false ∧ ∀ h, t.causeOpen (.threadLoose h) = false))) ∧
    (s.stopLine = false → sews → controlled .stopLineActive .stopLine fun t => { t with stopLine := true }) ∧
    (s.stopLine = false → s.run.state = .idle ∨ held → unchanged .stopLineActive fun t => { t with stopLine := true }) ∧
    (s.stopLine = true → exec .stopLineActive s = .next s) ∧
    exec .stopLineInactive s = .next { s with stopLine := false }

/-- A walk of the path. BACK and FORWARD begin one that first reads the record before, or at, the resume point; at its
clamp or its count a walk ends. A movement record found begins its trace move, P, the chain and the resume point
changing at the begin; a TRIM, a PAUSE and a CALL of an empty motif are passed over, and another CALL is entered. At
the end of a trace move the walk ends, reads on or begins the next one. STOP, QUICK_STOP and the stop line let a move
in flight complete, and between moves they end the walk at once (R55, R58, R68, R69, R70, R71, R72, R87, R148, R160,
R161, R167). That the fetch position follows the record a walk has to read is log 32, that a forward walk moves the
resume point over the records it passes log 28, and that a stop sets the stop reason at once log 21. -/
def Obligations.Walks : Prop :=
  (∀ (len : Design → Nat) (f : ChainFrame) (callers : List ChainFrame),
    (0 < f.index → Position.prev len ⟨f, callers⟩ = some ⟨{ f with index := f.index - 1 }, callers⟩) ∧
    (f.index = 0 → callers = [] → Position.prev len ⟨f, callers⟩ = none) ∧
    (∀ c up, f.index = 0 → callers = c :: up →
      (1 < f.rep →
        Position.prev len ⟨f, callers⟩ = some ⟨{ f with index := len f.design - 2, rep := f.rep - 1 }, callers⟩) ∧
      (f.rep ≤ 1 → Position.prev len ⟨f, callers⟩ = Position.prev len ⟨c, up⟩))) ∧
  ∀ s : State, s.shaft.active = none → s.shaft.stopReq = .none →
    let ended : Bool → Run → Nat → State → Prop := fun freed run done t =>
      t.run = { run with state := .stopped, pendingStop := false, lastTrace := done } ∧ t.walk = none ∧
      t.queue = [] ∧ t.feed.activity = .idle ∧ t.link.runChange = true ∧ t.shaft = s.shaft ∧
      State.granted (if freed then none else s.idledBurst) s t
    let stepped : WalkDir → Position → Run := fun dir p =>
      match dir with
      | .backward => { s.run with ordinal := s.run.ordinal - 1, resume := some p, chain := some p }
      | .forward => { s.run with ordinal := min (s.run.ordinal + 1) 4294967295, resume := some (p.next s.len),
                                 chain := some p }
    let rejoined : WalkDir → State → Prop := fun dir t =>
      (dir = .backward → t.heads = s.heads ∧ t.conditions = s.conditions ∧ t.changes = s.changes) ∧
      (dir = .forward → ∀ h,
        (∀ r, (s.heads.get h).state = .waiting r → r ≤ min (s.run.ordinal + 1) 4294967295 →
          (t.heads.get h).state = .sewing) ∧
        ((∀ r, (s.heads.get h).state = .waiting r → min (s.run.ordinal + 1) 4294967295 < r) →
          t.heads.get h = s.heads.get h))
    let traced : Bool → Walk → Position → Point → Point → State → Prop := fun freed w p q d t =>
      State.upToGrant
        { s with
          walk := some { w with done := w.done + 1, want := none }, run := stepped w.dir p, frame := t.frame
          heads := t.heads, conditions := t.conditions, changes := t.changes
          burst := if freed then none else s.burst } t ∧
      rejoined w.dir t ∧
      ∃ m, t.frame = { s.frame with state := .moving m, dirX := t.frame.dirX, dirY := t.frame.dirY } ∧
        m.kind = .trace ∧ m.start = q ∧ m.issued = 0 ∧
        m.disp = (match w.dir with | .backward => ⟨-2 * d.x, -2 * d.y⟩ | .forward => ⟨2 * d.x, 2 * d.y⟩) ∧
        m.time = s.config.rampAllowance + max m.disp.x.natAbs m.disp.y.natAbs * s.config.stepPeriod ∧
        t.frame.dirX = (if 0 < m.disp.x then .positive else if m.disp.x < 0 then .negative else s.frame.dirX) ∧
        t.frame.dirY = (if 0 < m.disp.y then .positive else if m.disp.y < 0 then .negative else s.frame.dirY)
    (∀ (n0 n1 : Byte) (r : Position),
      s.served → s.run.state = .stopped → s.haltLine = false → s.frame.state.isKnown = true → s.atTdc = true →
      1 ≤ (half n0 n1).toNat → (half n0 n1).toNat ≤ 4095 → s.run.resume = some r →
        let walking : Byte → WalkDir → Position → State := fun code dir p =>
          { s with
            run := { s.run with state := .backing }
            feed := { activity := .walking, blocked := false, fetch := p }
            walk := some { dir := dir, count := (half n0 n1).toNat, done := 0, held := none, want := some p }
            link := s.link.place ⟨code, .ok, .empty⟩ }
        let none? : State → Prop := fun t => ended false s.run 0 t ∧ t.frame = s.frame ∧ t.heads = s.heads
        (s.run.ordinal ≠ s.run.blockStart → ∀ p, r.prev s.len = some p →
          ∃ t, exec (.back [n0, n1]) s = .next t ∧ State.upToGrant (walking 0x25 .backward p) t) ∧
        (s.run.ordinal = s.run.blockStart → ∃ t, exec (.back [n0, n1]) s = .next t ∧ none? t) ∧
        (s.run.ordinal ≠ s.run.frontier →
          ∃ t, exec (.forward [n0, n1]) s = .next t ∧ State.upToGrant (walking 0x26 .forward r) t) ∧
        (s.run.ordinal = s.run.frontier → ∃ t, exec (.forward [n0, n1]) s = .next t ∧ none? t)) ∧
    (∀ (w : Walk) (p : Position) (b : Burst) (q : Point), s.run.state = .backing → s.feed.activity = .walking →
      s.walk = some w → w.want = some p → s.frame.state = .known q → s.burst = some b → b.claimant = .feed →
      b.stale = false → regionInside b.base b.first b.count = true →
        let words : List Word := (List.range b.count).map fun i => readPlace s.store (64 * b.base + b.first + i)
        let v : Walk := { w with held := some { design := p.inner.design, first := b.first, records := words } }
        let found : Position → Record → Prop := fun p x => b.first ≤ p.inner.index ∧
          ∃ u, words[p.inner.index - b.first]? = some u ∧ decodeRecord u = some x
        let moves : Position → Int → Int → Prop := fun p dx dy => found p (.stitch dx dy) ∨ found p (.jump dx dy)
        (∀ u ∈ words, decodeRecord u ≠ none) →
          (∀ dx dy, moves p dx dy →
            (dx ≠ 0 ∨ dy ≠ 0 → ∃ t, exec .burstComplete s = .next t ∧ traced true v p q ⟨dx, dy⟩ t) ∧
            (dx = 0 → dy = 0 →
              w.done + 1 = w.count ∨ (w.dir = .backward ∧ s.run.ordinal - 1 = s.run.blockStart) ∨
                (w.dir = .forward ∧ min (s.run.ordinal + 1) 4294967295 = s.run.frontier) →
              ∃ t, exec .burstComplete s = .next t ∧ ended true (stepped w.dir p) (w.done + 1) t ∧
                rejoined w.dir t ∧ t.frame = s.frame)) ∧
          (found p .trim ∨ found p .pause ∨ (∃ motif reps, found p (.call motif reps) ∧ s.len motif = 1) →
            ∀ p' dx dy, (w.dir = .backward ∧ p.prev s.len = some p' ∨ w.dir = .forward ∧ p' = p.next s.len) →
              p'.inner.design = p.inner.design → moves p' dx dy → dx ≠ 0 ∨ dy ≠ 0 →
              ∃ t, exec .burstComplete s = .next t ∧ traced true v p' q ⟨dx, dy⟩ t) ∧
          (∀ motif reps, found p (.call motif reps) → motif ≠ p.inner.design → 1 < s.len motif →
            let p' : Position := match w.dir with
              | .backward => ⟨⟨motif, s.len motif - 2, reps, reps⟩, p.inner :: p.callers⟩
              | .forward => ⟨⟨motif, 0, 1, reps⟩, p.inner :: p.callers⟩
            ∃ t, exec .burstComplete s = .next t ∧ State.upToGrant
              { s with
                burst := none, walk := some { v with want := some p' }
                feed := { s.feed with fetch := p' }
                run := { s.run with resume := if w.dir = .forward then some p' else s.run.resume } } t)) ∧
    (∀ (m : Move) (w : Walk) (r : Position), s.run.state = .backing → s.frame.state = .moving m → m.kind = .trace →
      s.frame.followOn = none → s.walk = some w → s.run.resume = some r →
        let target : Point := ⟨m.start.x + m.disp.x, m.start.y + m.disp.y⟩
        let home : FrameUnit := { s.frame with state := .known target }
        let atEnd : Prop := w.done = w.count ∨ (w.dir = .backward ∧ s.run.ordinal = s.run.blockStart) ∨
          (w.dir = .forward ∧ s.run.ordinal = s.run.frontier)
        (s.run.pendingStop = true ∨ atEnd →
          ∃ t, exec .moveComplete s = .next t ∧ ended false s.run w.done t ∧ t.frame = home ∧ t.heads = s.heads) ∧
        (s.run.pendingStop = false → ¬atEnd →
          ∀ p, (w.dir = .backward ∧ r.prev s.len = some p ∨ w.dir = .forward ∧ p = r) →
            ((∀ h, w.held = some h → h.design = p.inner.design →
                p.inner.index < h.first ∨ h.first + h.records.length ≤ p.inner.index) →
              ∃ t, exec .moveComplete s = .next t ∧ State.upToGrant
                { s with frame := home, walk := some { w with want := some p }
                         feed := { s.feed with fetch := p } } t) ∧
            (∀ h u dx dy, w.held = some h → h.design = p.inner.design → h.first ≤ p.inner.index →
              h.records[p.inner.index - h.first]? = some u →
              decodeRecord u = some (.stitch dx dy) ∨ decodeRecord u = some (.jump dx dy) → dx ≠ 0 ∨ dy ≠ 0 →
              ∃ t, exec .moveComplete s = .next t ∧ traced false w p target ⟨dx, dy⟩ t))) ∧
    (∀ w : Walk, s.run.state = .backing → s.walk = some w → s.run.pendingStop = false →
      let waits : StopReason → State → State := fun reason s0 =>
        { s0 with run := { s.run with pendingStop := true, reason := reason } }
      let ends : StopReason → State → Prop := fun reason t =>
        ended false { s.run with reason := reason } w.done t ∧ t.frame = s.frame ∧ t.heads = s.heads ∧
        (∀ b, s.burst = some b → b.claimant = .feed → t.burst = some { b with stale := true })
      let answered : Byte → State := fun code => { s with link := s.link.place ⟨code, .ok, .empty⟩ }
      (s.frame.state.isMoving = true →
        (s.served → (∃ t, exec (.stop []) s = .next t ∧ State.upToGrant (waits .hostStop (answered 0x22)) t) ∧
          ∃ t, exec (.quickStop []) s = .next t ∧ State.upToGrant (waits .quickStop (answered 0x23)) t) ∧
        (s.stopLine = false → ∃ t, exec .stopLineActive s = .next t ∧
          State.upToGrant (waits .stopLine { s with stopLine := true }) t)) ∧
      (s.frame.state.isMoving = false →
        (s.served → (∃ t, exec (.stop []) s = .next t ∧ ends .hostStop t) ∧
          ∃ t, exec (.quickStop []) s = .next t ∧ ends .quickStop t) ∧
        (s.stopLine = false → ∃ t, exec .stopLineActive s = .next t ∧ ends .stopLine t ∧ t.stopLine = true)))

/-- While the halt line is active every request that would move something is refused, and nothing but the link
changes; the line becoming inactive changes nothing in a held run, and reading inactive while it is inactive already
has no effect, which is the model's choice, log 3 (R79, R81, R110, R129, R157, R162, R167, R169). -/
def Obligations.HaltLineRefuses : Prop :=
  (∀ (s : State) (c : Instr), s.served → s.haltLine = true →
    (∃ b, c = .start [b]) ∨ c = .resume [] ∨ (∃ n0 n1, c = .back [n0, n1]) ∨ (∃ n0 n1, c = .forward [n0, n1]) ∨
      c = .home [] ∨ (∃ x0 x1 y0 y1, c = .frameMove [x0, x1, y0, y1]) ∨ c = .shaftToTdc [] ∨
      (∃ b, c = .selectNeedle [b]) →
    ∃ code st, st ≠ .ok ∧ exec c s = .next (s.reply code st .empty)) ∧
  (∀ s : State, s.haltLine = true → s.run.state ≠ .running → s.run.state ≠ .stopping → s.shaft.active = none →
    ∃ t, exec .haltLineInactive s = .next t ∧ State.upToGrant { s with haltLine := false } t) ∧
  (∀ s : State, s.haltLine = false → exec .haltLineInactive s = .next s)

/-! ## Conditions -/

/-- The table of the events that reach a condition entry: opened, cleared, acknowledged; no other entry changes,
the order stays, and each change counts (R178, R179, R180, R181, R182). -/
def Obligations.ConditionTransitions : Prop :=
  ∀ (s : State) (k : Key), s.conditionsSound →
    let keys : State → List Key := fun t => t.conditions.map (·.key)
    let others : State → Prop := fun t => ∀ k', k' ≠ k → t.condition? k' = s.condition? k'
    let counted : State → Prop := fun t => t.changes = (s.changes + 1) % 65536
    let frame : State → Prop := fun t => t = { s with conditions := t.conditions, changes := t.changes }
    (∀ needle detail position,
      let t := s.openCause k needle detail position
      let fresh : Condition := { key := k, state := .opened, repeats := 0, needle := needle, detail := detail,
                                 ordinal := s.run.ordinal, position := position }
      frame t ∧ others t ∧ counted t ∧
      (s.condition? k = none → keys t = keys s ++ [k] ∧ t.condition? k = some fresh) ∧
      (∀ c, s.condition? k = some c → keys t = keys s ∧
        t.condition? k = some { fresh with repeats := min 255 (c.repeats + 1) })) ∧
    (let t := s.clearCause k
     frame t ∧ others t ∧
     (s.condition? k = none → t = s) ∧
     (∀ c, s.condition? k = some c →
       (c.state = .opened → counted t ∧ keys t = keys s ∧ t.condition? k = some { c with state := .cleared }) ∧
       (c.state = .held → counted t ∧ keys t = (keys s).erase k ∧ t.condition? k = none) ∧
       (c.state = .cleared → t = s))) ∧
    (let t := s.acknowledge k
     frame t ∧ others t ∧
     (s.condition? k = none → t = s) ∧
     (∀ c, s.condition? k = some c →
       (c.state = .opened → counted t ∧ keys t = keys s ∧ t.condition? k = some { c with state := .held }) ∧
       (c.state = .held → t = s) ∧
       (c.state = .cleared → counted t ∧ keys t = (keys s).erase k ∧ t.condition? k = none)))

/-- NEXT_CONDITION returns the unacknowledged entry of highest severity nearest the head, acknowledges it and
gives the number left; LIST_CONDITIONS reports up to four entries from a place on and changes nothing. Each entry is
given with its place and all its fields; each kind has its code and its severity, and each key its head number (R52,
R176, R177, R183, R185). -/
def Obligations.ConditionRequests : Prop :=
  (∀ c : Condition, c.report =
    { key := c.key, severity := c.key.severity, state := c.state, repeats := c.repeats, needle := c.needle,
      detail := c.detail, ordinal := c.ordinal
      position := c.position.map fun q => ((q.inner :: q.callers).map fun f => ⟨f.design, f.index, f.rep⟩).reverse }) ∧
  (∀ h : Head,
    let row : Key → Nat × Nat × Nat := fun k => (k.code, k.headNumber, k.severity)
    row .shaftStall = (1, 0, 1) ∧ row .carriageFault = (2, 0, 1) ∧ row .frameLimit = (3, 0, 2) ∧
    row .recordFault = (4, 0, 2) ∧ row .needleUnmatched = (5, 0, 2) ∧ row (.threadBreak h) = (6, h.val + 1, 3) ∧
    row (.threadLoose h) = (7, h.val + 1, 4) ∧ row (.bobbinLow h) = (8, h.val + 1, 4)) ∧
  ∀ s : State, s.served →
    ((∀ c ∈ s.conditions, c.state = .held) →
      exec (.nextCondition []) s = .next (s.reply 0x50 .ok (.nextCondition none 0))) ∧
    (∀ (i : Nat) (c : Condition), s.conditions[i]? = some c → c.state ≠ .held →
      (∀ (j : Nat) (x : Condition), s.conditions[j]? = some x → x.state ≠ .held →
        c.key.severity < x.key.severity ∨ c.key.severity = x.key.severity ∧ i ≤ j) →
      exec (.nextCondition []) s = .next ((s.acknowledge c.key).reply 0x50 .ok
        (.nextCondition (some (i, c.report)) ((s.conditions.filter fun x => decide (x.state ≠ .held)).length - 1)))) ∧
    (∀ b : Byte, (40 < b.toNat → exec (.listConditions [b]) s = .next (s.reply 0x51 .badArgument .empty)) ∧
      (b.toNat ≤ 40 → ∃ entries : List (Nat × ConditionReport),
        exec (.listConditions [b]) s =
          .next (s.reply 0x51 .ok (.conditions s.conditions.length s.changes entries)) ∧
        entries.length = min 4 (s.conditions.length - b.toNat) ∧
        ∀ (j : Nat) (x : Nat × ConditionReport), entries[j]? = some x →
          x.1 = b.toNat + j ∧ s.conditions[b.toNat + j]?.map Condition.report = some x.2))

/-- ACK_CONDITION: its checks in their order, the acknowledgement, and the reply with the state found and whether
the entry is still in the table; it is accepted in every run state (R184). The key named is the one of R176's table
with that code and head: no other key has both. -/
def Obligations.AckConditionRule : Prop :=
  ∀ (s : State) (kind head : Byte), s.served → s.conditionsSound →
    let refused : Status → Prop := fun st =>
      exec (.ackCondition [kind, head]) s = .next (s.reply 0x52 st .empty)
    (kind.toNat < 1 ∨ 8 < kind.toNat → refused .badArgument) ∧
    (1 ≤ kind.toNat → kind.toNat ≤ 5 → head.toNat ≠ 0 → refused .badArgument) ∧
    (6 ≤ kind.toNat → kind.toNat ≤ 8 → head.toNat < 1 ∨ 12 < head.toNat → refused .badArgument) ∧
    ((1 ≤ kind.toNat ∧ kind.toNat ≤ 5 ∧ head.toNat = 0) ∨
        (6 ≤ kind.toNat ∧ kind.toNat ≤ 8 ∧ 1 ≤ head.toNat ∧ head.toNat ≤ 12) →
      ∃ k : Key, k.code = kind.toNat ∧ k.headNumber = head.toNat ∧
        (∀ k' : Key, k'.code = k.code → k'.headNumber = k.headNumber → k' = k) ∧
        (s.condition? k = none → refused .notFound) ∧
        (∀ c, s.condition? k = some c →
          exec (.ackCondition [kind, head]) s =
            .next ((s.acknowledge k).reply 0x52 .ok (.acknowledged c.state (decide (c.state ≠ .cleared)))) ∧
          (c.state = .held → s.acknowledge k = s)))

/-! ## Invariants -/

/-- The machine right after a reset has every property that a step keeps. -/
def Obligations.ResetSound : Prop := State.reset.sound

/-- Every step keeps the canonical form of the store (log 7). -/
def Obligations.StepKeepsStoreCanonical : Prop :=
  ∀ s t : State, s.storeCanonical → step s = .next t → t.storeCanonical

/-- Every step keeps the condition table free of two entries with one key, and its counts in range (R176,
R178). -/
def Obligations.StepKeepsConditionsSound : Prop :=
  ∀ s t : State, s.conditionsSound → step s = .next t → t.conditionsSound

/-- Every step keeps the speed command 0 or within speed_min..speed_max, 0 in every shaft state that does not
drive the shaft, and the configuration within its ranges (R92, R98, R101, R198). -/
def Obligations.StepKeepsSpeedSound : Prop :=
  ∀ s t : State, s.speedSound → step s = .next t → t.speedSound

/-- Every step keeps the queue empty and the feed IDLE while no run sews, and the path fields absent while no run
exists (R51, R58, R64, R66). -/
def Obligations.StepKeepsHeldSound : Prop :=
  ∀ s t : State, s.heldSound → step s = .next t → t.heldSound

/-- Every step keeps the block start at most the path ordinal, and that at most the frontier (R55, R70, R71). -/
def Obligations.StepKeepsOrdinalsSound : Prop :=
  ∀ s t : State, s.ordinalsSound → step s = .next t → t.ordinalsSound

/-- While the halt line is active, no step commands a speed, moves anything or lets a run go on (R108, R169). -/
def Obligations.StepKeepsHaltHolds : Prop :=
  ∀ s t : State, s.heldSound → s.haltHolds → step s = .next t → t.haltHolds

/-- A step into STOPPED, HALTED or IDLE from another run state sets the run-change flag; only the cold resets do
not (R155, R159, R164, R170, R202). -/
def Obligations.HoldSetsRunChange : Prop :=
  ∀ s t : State, step s = .next t → s.pending.head? ≠ some .powerOn → s.pending.head? ≠ some .resetPin →
    t.run.state ≠ s.run.state → t.run.state = .stopped ∨ t.run.state = .halted ∨ t.run.state = .idle →
      t.link.runChange = true
end

