-- ==== Sys2Proof/Laws/State.lean ====
section
/-! SUPPORT. What each of the shared operations leaves as it was: one lemma per field per update. -/

namespace Sys2Proof.Machine

variable (s : State)

@[simp] theorem State.reply_config (code : Byte) (st : Status) (p : Payload) : (s.reply code st p).config = s.config := rfl
@[simp] theorem State.reply_designs (code : Byte) (st : Status) (p : Payload) : (s.reply code st p).designs = s.designs := rfl
@[simp] theorem State.reply_load (code : Byte) (st : Status) (p : Payload) : (s.reply code st p).load = s.load := rfl
@[simp] theorem State.reply_store (code : Byte) (st : Status) (p : Payload) : (s.reply code st p).store = s.store := rfl
@[simp] theorem State.reply_burst (code : Byte) (st : Status) (p : Payload) : (s.reply code st p).burst = s.burst := rfl
@[simp] theorem State.reply_lastGranted (code : Byte) (st : Status) (p : Payload) : (s.reply code st p).lastGranted = s.lastGranted := rfl
@[simp] theorem State.reply_feed (code : Byte) (st : Status) (p : Payload) : (s.reply code st p).feed = s.feed := rfl
@[simp] theorem State.reply_walk (code : Byte) (st : Status) (p : Payload) : (s.reply code st p).walk = s.walk := rfl
@[simp] theorem State.reply_queue (code : Byte) (st : Status) (p : Payload) : (s.reply code st p).queue = s.queue := rfl
@[simp] theorem State.reply_frame (code : Byte) (st : Status) (p : Payload) : (s.reply code st p).frame = s.frame := rfl
@[simp] theorem State.reply_shaft (code : Byte) (st : Status) (p : Payload) : (s.reply code st p).shaft = s.shaft := rfl
@[simp] theorem State.reply_needles (code : Byte) (st : Status) (p : Payload) : (s.reply code st p).needles = s.needles := rfl
@[simp] theorem State.reply_carriage (code : Byte) (st : Status) (p : Payload) : (s.reply code st p).carriage = s.carriage := rfl
@[simp] theorem State.reply_heads (code : Byte) (st : Status) (p : Payload) : (s.reply code st p).heads = s.heads := rfl
@[simp] theorem State.reply_enable (code : Byte) (st : Status) (p : Payload) : (s.reply code st p).enable = s.enable := rfl
@[simp] theorem State.reply_conditions (code : Byte) (st : Status) (p : Payload) : (s.reply code st p).conditions = s.conditions := rfl
@[simp] theorem State.reply_changes (code : Byte) (st : Status) (p : Payload) : (s.reply code st p).changes = s.changes := rfl
@[simp] theorem State.reply_run (code : Byte) (st : Status) (p : Payload) : (s.reply code st p).run = s.run := rfl
@[simp] theorem State.reply_haltLine (code : Byte) (st : Status) (p : Payload) : (s.reply code st p).haltLine = s.haltLine := rfl
@[simp] theorem State.reply_stopLine (code : Byte) (st : Status) (p : Payload) : (s.reply code st p).stopLine = s.stopLine := rfl
@[simp] theorem State.reply_free (code : Byte) (st : Status) (p : Payload) : (s.reply code st p).free = s.free := rfl
@[simp] theorem State.reply_pending (code : Byte) (st : Status) (p : Payload) : (s.reply code st p).pending = s.pending := rfl

@[simp] theorem State.refuse_config (code : Byte) (st : Status) : (s.refuse code st).config = s.config := rfl
@[simp] theorem State.refuse_designs (code : Byte) (st : Status) : (s.refuse code st).designs = s.designs := rfl
@[simp] theorem State.refuse_load (code : Byte) (st : Status) : (s.refuse code st).load = s.load := rfl
@[simp] theorem State.refuse_store (code : Byte) (st : Status) : (s.refuse code st).store = s.store := rfl
@[simp] theorem State.refuse_burst (code : Byte) (st : Status) : (s.refuse code st).burst = s.burst := rfl
@[simp] theorem State.refuse_lastGranted (code : Byte) (st : Status) : (s.refuse code st).lastGranted = s.lastGranted := rfl
@[simp] theorem State.refuse_feed (code : Byte) (st : Status) : (s.refuse code st).feed = s.feed := rfl
@[simp] theorem State.refuse_walk (code : Byte) (st : Status) : (s.refuse code st).walk = s.walk := rfl
@[simp] theorem State.refuse_queue (code : Byte) (st : Status) : (s.refuse code st).queue = s.queue := rfl
@[simp] theorem State.refuse_frame (code : Byte) (st : Status) : (s.refuse code st).frame = s.frame := rfl
@[simp] theorem State.refuse_shaft (code : Byte) (st : Status) : (s.refuse code st).shaft = s.shaft := rfl
@[simp] theorem State.refuse_needles (code : Byte) (st : Status) : (s.refuse code st).needles = s.needles := rfl
@[simp] theorem State.refuse_carriage (code : Byte) (st : Status) : (s.refuse code st).carriage = s.carriage := rfl
@[simp] theorem State.refuse_heads (code : Byte) (st : Status) : (s.refuse code st).heads = s.heads := rfl
@[simp] theorem State.refuse_enable (code : Byte) (st : Status) : (s.refuse code st).enable = s.enable := rfl
@[simp] theorem State.refuse_conditions (code : Byte) (st : Status) : (s.refuse code st).conditions = s.conditions := rfl
@[simp] theorem State.refuse_changes (code : Byte) (st : Status) : (s.refuse code st).changes = s.changes := rfl
@[simp] theorem State.refuse_run (code : Byte) (st : Status) : (s.refuse code st).run = s.run := rfl
@[simp] theorem State.refuse_haltLine (code : Byte) (st : Status) : (s.refuse code st).haltLine = s.haltLine := rfl
@[simp] theorem State.refuse_stopLine (code : Byte) (st : Status) : (s.refuse code st).stopLine = s.stopLine := rfl
@[simp] theorem State.refuse_free (code : Byte) (st : Status) : (s.refuse code st).free = s.free := rfl
@[simp] theorem State.refuse_pending (code : Byte) (st : Status) : (s.refuse code st).pending = s.pending := rfl

@[simp] theorem State.setHead_config (h : Head) (r : HeadRecord) : (s.setHead h r).config = s.config := rfl
@[simp] theorem State.setHead_link (h : Head) (r : HeadRecord) : (s.setHead h r).link = s.link := rfl
@[simp] theorem State.setHead_designs (h : Head) (r : HeadRecord) : (s.setHead h r).designs = s.designs := rfl
@[simp] theorem State.setHead_load (h : Head) (r : HeadRecord) : (s.setHead h r).load = s.load := rfl
@[simp] theorem State.setHead_store (h : Head) (r : HeadRecord) : (s.setHead h r).store = s.store := rfl
@[simp] theorem State.setHead_burst (h : Head) (r : HeadRecord) : (s.setHead h r).burst = s.burst := rfl
@[simp] theorem State.setHead_lastGranted (h : Head) (r : HeadRecord) : (s.setHead h r).lastGranted = s.lastGranted := rfl
@[simp] theorem State.setHead_feed (h : Head) (r : HeadRecord) : (s.setHead h r).feed = s.feed := rfl
@[simp] theorem State.setHead_walk (h : Head) (r : HeadRecord) : (s.setHead h r).walk = s.walk := rfl
@[simp] theorem State.setHead_queue (h : Head) (r : HeadRecord) : (s.setHead h r).queue = s.queue := rfl
@[simp] theorem State.setHead_frame (h : Head) (r : HeadRecord) : (s.setHead h r).frame = s.frame := rfl
@[simp] theorem State.setHead_shaft (h : Head) (r : HeadRecord) : (s.setHead h r).shaft = s.shaft := rfl
@[simp] theorem State.setHead_needles (h : Head) (r : HeadRecord) : (s.setHead h r).needles = s.needles := rfl
@[simp] theorem State.setHead_carriage (h : Head) (r : HeadRecord) : (s.setHead h r).carriage = s.carriage := rfl
@[simp] theorem State.setHead_enable (h : Head) (r : HeadRecord) : (s.setHead h r).enable = s.enable := rfl
@[simp] theorem State.setHead_conditions (h : Head) (r : HeadRecord) : (s.setHead h r).conditions = s.conditions := rfl
@[simp] theorem State.setHead_changes (h : Head) (r : HeadRecord) : (s.setHead h r).changes = s.changes := rfl
@[simp] theorem State.setHead_run (h : Head) (r : HeadRecord) : (s.setHead h r).run = s.run := rfl
@[simp] theorem State.setHead_haltLine (h : Head) (r : HeadRecord) : (s.setHead h r).haltLine = s.haltLine := rfl
@[simp] theorem State.setHead_stopLine (h : Head) (r : HeadRecord) : (s.setHead h r).stopLine = s.stopLine := rfl
@[simp] theorem State.setHead_free (h : Head) (r : HeadRecord) : (s.setHead h r).free = s.free := rfl
@[simp] theorem State.setHead_pending (h : Head) (r : HeadRecord) : (s.setHead h r).pending = s.pending := rfl

@[simp] theorem State.latchesOff_config : (s.latchesOff).config = s.config := rfl
@[simp] theorem State.latchesOff_link : (s.latchesOff).link = s.link := rfl
@[simp] theorem State.latchesOff_designs : (s.latchesOff).designs = s.designs := rfl
@[simp] theorem State.latchesOff_load : (s.latchesOff).load = s.load := rfl
@[simp] theorem State.latchesOff_store : (s.latchesOff).store = s.store := rfl
@[simp] theorem State.latchesOff_burst : (s.latchesOff).burst = s.burst := rfl
@[simp] theorem State.latchesOff_lastGranted : (s.latchesOff).lastGranted = s.lastGranted := rfl
@[simp] theorem State.latchesOff_feed : (s.latchesOff).feed = s.feed := rfl
@[simp] theorem State.latchesOff_walk : (s.latchesOff).walk = s.walk := rfl
@[simp] theorem State.latchesOff_queue : (s.latchesOff).queue = s.queue := rfl
@[simp] theorem State.latchesOff_frame : (s.latchesOff).frame = s.frame := rfl
@[simp] theorem State.latchesOff_shaft : (s.latchesOff).shaft = s.shaft := rfl
@[simp] theorem State.latchesOff_needles : (s.latchesOff).needles = s.needles := rfl
@[simp] theorem State.latchesOff_carriage : (s.latchesOff).carriage = s.carriage := rfl
@[simp] theorem State.latchesOff_enable : (s.latchesOff).enable = s.enable := rfl
@[simp] theorem State.latchesOff_conditions : (s.latchesOff).conditions = s.conditions := rfl
@[simp] theorem State.latchesOff_changes : (s.latchesOff).changes = s.changes := rfl
@[simp] theorem State.latchesOff_run : (s.latchesOff).run = s.run := rfl
@[simp] theorem State.latchesOff_haltLine : (s.latchesOff).haltLine = s.haltLine := rfl
@[simp] theorem State.latchesOff_stopLine : (s.latchesOff).stopLine = s.stopLine := rfl
@[simp] theorem State.latchesOff_free : (s.latchesOff).free = s.free := rfl
@[simp] theorem State.latchesOff_pending : (s.latchesOff).pending = s.pending := rfl

@[simp] theorem State.trimmersOff_config : (s.trimmersOff).config = s.config := rfl
@[simp] theorem State.trimmersOff_link : (s.trimmersOff).link = s.link := rfl
@[simp] theorem State.trimmersOff_designs : (s.trimmersOff).designs = s.designs := rfl
@[simp] theorem State.trimmersOff_load : (s.trimmersOff).load = s.load := rfl
@[simp] theorem State.trimmersOff_store : (s.trimmersOff).store = s.store := rfl
@[simp] theorem State.trimmersOff_burst : (s.trimmersOff).burst = s.burst := rfl
@[simp] theorem State.trimmersOff_lastGranted : (s.trimmersOff).lastGranted = s.lastGranted := rfl
@[simp] theorem State.trimmersOff_feed : (s.trimmersOff).feed = s.feed := rfl
@[simp] theorem State.trimmersOff_walk : (s.trimmersOff).walk = s.walk := rfl
@[simp] theorem State.trimmersOff_queue : (s.trimmersOff).queue = s.queue := rfl
@[simp] theorem State.trimmersOff_frame : (s.trimmersOff).frame = s.frame := rfl
@[simp] theorem State.trimmersOff_shaft : (s.trimmersOff).shaft = s.shaft := rfl
@[simp] theorem State.trimmersOff_needles : (s.trimmersOff).needles = s.needles := rfl
@[simp] theorem State.trimmersOff_carriage : (s.trimmersOff).carriage = s.carriage := rfl
@[simp] theorem State.trimmersOff_enable : (s.trimmersOff).enable = s.enable := rfl
@[simp] theorem State.trimmersOff_conditions : (s.trimmersOff).conditions = s.conditions := rfl
@[simp] theorem State.trimmersOff_changes : (s.trimmersOff).changes = s.changes := rfl
@[simp] theorem State.trimmersOff_run : (s.trimmersOff).run = s.run := rfl
@[simp] theorem State.trimmersOff_haltLine : (s.trimmersOff).haltLine = s.haltLine := rfl
@[simp] theorem State.trimmersOff_stopLine : (s.trimmersOff).stopLine = s.stopLine := rfl
@[simp] theorem State.trimmersOff_free : (s.trimmersOff).free = s.free := rfl
@[simp] theorem State.trimmersOff_pending : (s.trimmersOff).pending = s.pending := rfl

@[simp] theorem State.setLatches_config (k : RevKind) : (s.setLatches k).config = s.config := rfl
@[simp] theorem State.setLatches_link (k : RevKind) : (s.setLatches k).link = s.link := rfl
@[simp] theorem State.setLatches_designs (k : RevKind) : (s.setLatches k).designs = s.designs := rfl
@[simp] theorem State.setLatches_load (k : RevKind) : (s.setLatches k).load = s.load := rfl
@[simp] theorem State.setLatches_store (k : RevKind) : (s.setLatches k).store = s.store := rfl
@[simp] theorem State.setLatches_burst (k : RevKind) : (s.setLatches k).burst = s.burst := rfl
@[simp] theorem State.setLatches_lastGranted (k : RevKind) : (s.setLatches k).lastGranted = s.lastGranted := rfl
@[simp] theorem State.setLatches_feed (k : RevKind) : (s.setLatches k).feed = s.feed := rfl
@[simp] theorem State.setLatches_walk (k : RevKind) : (s.setLatches k).walk = s.walk := rfl
@[simp] theorem State.setLatches_queue (k : RevKind) : (s.setLatches k).queue = s.queue := rfl
@[simp] theorem State.setLatches_frame (k : RevKind) : (s.setLatches k).frame = s.frame := rfl
@[simp] theorem State.setLatches_shaft (k : RevKind) : (s.setLatches k).shaft = s.shaft := rfl
@[simp] theorem State.setLatches_needles (k : RevKind) : (s.setLatches k).needles = s.needles := rfl
@[simp] theorem State.setLatches_carriage (k : RevKind) : (s.setLatches k).carriage = s.carriage := rfl
@[simp] theorem State.setLatches_enable (k : RevKind) : (s.setLatches k).enable = s.enable := rfl
@[simp] theorem State.setLatches_conditions (k : RevKind) : (s.setLatches k).conditions = s.conditions := rfl
@[simp] theorem State.setLatches_changes (k : RevKind) : (s.setLatches k).changes = s.changes := rfl
@[simp] theorem State.setLatches_run (k : RevKind) : (s.setLatches k).run = s.run := rfl
@[simp] theorem State.setLatches_haltLine (k : RevKind) : (s.setLatches k).haltLine = s.haltLine := rfl
@[simp] theorem State.setLatches_stopLine (k : RevKind) : (s.setLatches k).stopLine = s.stopLine := rfl
@[simp] theorem State.setLatches_free (k : RevKind) : (s.setLatches k).free = s.free := rfl
@[simp] theorem State.setLatches_pending (k : RevKind) : (s.setLatches k).pending = s.pending := rfl

@[simp] theorem State.setDesign_config (d : Design) (x : Descriptor) : (s.setDesign d x).config = s.config := rfl
@[simp] theorem State.setDesign_link (d : Design) (x : Descriptor) : (s.setDesign d x).link = s.link := rfl
@[simp] theorem State.setDesign_load (d : Design) (x : Descriptor) : (s.setDesign d x).load = s.load := rfl
@[simp] theorem State.setDesign_store (d : Design) (x : Descriptor) : (s.setDesign d x).store = s.store := rfl
@[simp] theorem State.setDesign_burst (d : Design) (x : Descriptor) : (s.setDesign d x).burst = s.burst := rfl
@[simp] theorem State.setDesign_lastGranted (d : Design) (x : Descriptor) : (s.setDesign d x).lastGranted = s.lastGranted := rfl
@[simp] theorem State.setDesign_feed (d : Design) (x : Descriptor) : (s.setDesign d x).feed = s.feed := rfl
@[simp] theorem State.setDesign_walk (d : Design) (x : Descriptor) : (s.setDesign d x).walk = s.walk := rfl
@[simp] theorem State.setDesign_queue (d : Design) (x : Descriptor) : (s.setDesign d x).queue = s.queue := rfl
@[simp] theorem State.setDesign_frame (d : Design) (x : Descriptor) : (s.setDesign d x).frame = s.frame := rfl
@[simp] theorem State.setDesign_shaft (d : Design) (x : Descriptor) : (s.setDesign d x).shaft = s.shaft := rfl
@[simp] theorem State.setDesign_needles (d : Design) (x : Descriptor) : (s.setDesign d x).needles = s.needles := rfl
@[simp] theorem State.setDesign_carriage (d : Design) (x : Descriptor) : (s.setDesign d x).carriage = s.carriage := rfl
@[simp] theorem State.setDesign_heads (d : Design) (x : Descriptor) : (s.setDesign d x).heads = s.heads := rfl
@[simp] theorem State.setDesign_enable (d : Design) (x : Descriptor) : (s.setDesign d x).enable = s.enable := rfl
@[simp] theorem State.setDesign_conditions (d : Design) (x : Descriptor) : (s.setDesign d x).conditions = s.conditions := rfl
@[simp] theorem State.setDesign_changes (d : Design) (x : Descriptor) : (s.setDesign d x).changes = s.changes := rfl
@[simp] theorem State.setDesign_run (d : Design) (x : Descriptor) : (s.setDesign d x).run = s.run := rfl
@[simp] theorem State.setDesign_haltLine (d : Design) (x : Descriptor) : (s.setDesign d x).haltLine = s.haltLine := rfl
@[simp] theorem State.setDesign_stopLine (d : Design) (x : Descriptor) : (s.setDesign d x).stopLine = s.stopLine := rfl
@[simp] theorem State.setDesign_free (d : Design) (x : Descriptor) : (s.setDesign d x).free = s.free := rfl
@[simp] theorem State.setDesign_pending (d : Design) (x : Descriptor) : (s.setDesign d x).pending = s.pending := rfl

@[simp] theorem State.setThread_config (n : Needle) (x : Option Thread) : (s.setThread n x).config = s.config := rfl
@[simp] theorem State.setThread_link (n : Needle) (x : Option Thread) : (s.setThread n x).link = s.link := rfl
@[simp] theorem State.setThread_designs (n : Needle) (x : Option Thread) : (s.setThread n x).designs = s.designs := rfl
@[simp] theorem State.setThread_load (n : Needle) (x : Option Thread) : (s.setThread n x).load = s.load := rfl
@[simp] theorem State.setThread_store (n : Needle) (x : Option Thread) : (s.setThread n x).store = s.store := rfl
@[simp] theorem State.setThread_burst (n : Needle) (x : Option Thread) : (s.setThread n x).burst = s.burst := rfl
@[simp] theorem State.setThread_lastGranted (n : Needle) (x : Option Thread) : (s.setThread n x).lastGranted = s.lastGranted := rfl
@[simp] theorem State.setThread_feed (n : Needle) (x : Option Thread) : (s.setThread n x).feed = s.feed := rfl
@[simp] theorem State.setThread_walk (n : Needle) (x : Option Thread) : (s.setThread n x).walk = s.walk := rfl
@[simp] theorem State.setThread_queue (n : Needle) (x : Option Thread) : (s.setThread n x).queue = s.queue := rfl
@[simp] theorem State.setThread_frame (n : Needle) (x : Option Thread) : (s.setThread n x).frame = s.frame := rfl
@[simp] theorem State.setThread_shaft (n : Needle) (x : Option Thread) : (s.setThread n x).shaft = s.shaft := rfl
@[simp] theorem State.setThread_carriage (n : Needle) (x : Option Thread) : (s.setThread n x).carriage = s.carriage := rfl
@[simp] theorem State.setThread_heads (n : Needle) (x : Option Thread) : (s.setThread n x).heads = s.heads := rfl
@[simp] theorem State.setThread_enable (n : Needle) (x : Option Thread) : (s.setThread n x).enable = s.enable := rfl
@[simp] theorem State.setThread_conditions (n : Needle) (x : Option Thread) : (s.setThread n x).conditions = s.conditions := rfl
@[simp] theorem State.setThread_changes (n : Needle) (x : Option Thread) : (s.setThread n x).changes = s.changes := rfl
@[simp] theorem State.setThread_run (n : Needle) (x : Option Thread) : (s.setThread n x).run = s.run := rfl
@[simp] theorem State.setThread_haltLine (n : Needle) (x : Option Thread) : (s.setThread n x).haltLine = s.haltLine := rfl
@[simp] theorem State.setThread_stopLine (n : Needle) (x : Option Thread) : (s.setThread n x).stopLine = s.stopLine := rfl
@[simp] theorem State.setThread_free (n : Needle) (x : Option Thread) : (s.setThread n x).free = s.free := rfl
@[simp] theorem State.setThread_pending (n : Needle) (x : Option Thread) : (s.setThread n x).pending = s.pending := rfl

@[simp] theorem State.openCause_config (k : Key) (n : Option Needle) (d : Detail) (p : Option Position) : (s.openCause k n d p).config = s.config := rfl
@[simp] theorem State.openCause_link (k : Key) (n : Option Needle) (d : Detail) (p : Option Position) : (s.openCause k n d p).link = s.link := rfl
@[simp] theorem State.openCause_designs (k : Key) (n : Option Needle) (d : Detail) (p : Option Position) : (s.openCause k n d p).designs = s.designs := rfl
@[simp] theorem State.openCause_load (k : Key) (n : Option Needle) (d : Detail) (p : Option Position) : (s.openCause k n d p).load = s.load := rfl
@[simp] theorem State.openCause_store (k : Key) (n : Option Needle) (d : Detail) (p : Option Position) : (s.openCause k n d p).store = s.store := rfl
@[simp] theorem State.openCause_burst (k : Key) (n : Option Needle) (d : Detail) (p : Option Position) : (s.openCause k n d p).burst = s.burst := rfl
@[simp] theorem State.openCause_lastGranted (k : Key) (n : Option Needle) (d : Detail) (p : Option Position) : (s.openCause k n d p).lastGranted = s.lastGranted := rfl
@[simp] theorem State.openCause_feed (k : Key) (n : Option Needle) (d : Detail) (p : Option Position) : (s.openCause k n d p).feed = s.feed := rfl
@[simp] theorem State.openCause_walk (k : Key) (n : Option Needle) (d : Detail) (p : Option Position) : (s.openCause k n d p).walk = s.walk := rfl
@[simp] theorem State.openCause_queue (k : Key) (n : Option Needle) (d : Detail) (p : Option Position) : (s.openCause k n d p).queue = s.queue := rfl
@[simp] theorem State.openCause_frame (k : Key) (n : Option Needle) (d : Detail) (p : Option Position) : (s.openCause k n d p).frame = s.frame := rfl
@[simp] theorem State.openCause_shaft (k : Key) (n : Option Needle) (d : Detail) (p : Option Position) : (s.openCause k n d p).shaft = s.shaft := rfl
@[simp] theorem State.openCause_needles (k : Key) (n : Option Needle) (d : Detail) (p : Option Position) : (s.openCause k n d p).needles = s.needles := rfl
@[simp] theorem State.openCause_carriage (k : Key) (n : Option Needle) (d : Detail) (p : Option Position) : (s.openCause k n d p).carriage = s.carriage := rfl
@[simp] theorem State.openCause_heads (k : Key) (n : Option Needle) (d : Detail) (p : Option Position) : (s.openCause k n d p).heads = s.heads := rfl
@[simp] theorem State.openCause_enable (k : Key) (n : Option Needle) (d : Detail) (p : Option Position) : (s.openCause k n d p).enable = s.enable := rfl
@[simp] theorem State.openCause_run (k : Key) (n : Option Needle) (d : Detail) (p : Option Position) : (s.openCause k n d p).run = s.run := rfl
@[simp] theorem State.openCause_haltLine (k : Key) (n : Option Needle) (d : Detail) (p : Option Position) : (s.openCause k n d p).haltLine = s.haltLine := rfl
@[simp] theorem State.openCause_stopLine (k : Key) (n : Option Needle) (d : Detail) (p : Option Position) : (s.openCause k n d p).stopLine = s.stopLine := rfl
@[simp] theorem State.openCause_free (k : Key) (n : Option Needle) (d : Detail) (p : Option Position) : (s.openCause k n d p).free = s.free := rfl
@[simp] theorem State.openCause_pending (k : Key) (n : Option Needle) (d : Detail) (p : Option Position) : (s.openCause k n d p).pending = s.pending := rfl

@[simp] theorem State.feedIdle_config : (s.feedIdle).config = s.config := rfl
@[simp] theorem State.feedIdle_link : (s.feedIdle).link = s.link := rfl
@[simp] theorem State.feedIdle_designs : (s.feedIdle).designs = s.designs := rfl
@[simp] theorem State.feedIdle_load : (s.feedIdle).load = s.load := rfl
@[simp] theorem State.feedIdle_store : (s.feedIdle).store = s.store := rfl
@[simp] theorem State.feedIdle_lastGranted : (s.feedIdle).lastGranted = s.lastGranted := rfl
@[simp] theorem State.feedIdle_walk : (s.feedIdle).walk = s.walk := rfl
@[simp] theorem State.feedIdle_queue : (s.feedIdle).queue = s.queue := rfl
@[simp] theorem State.feedIdle_frame : (s.feedIdle).frame = s.frame := rfl
@[simp] theorem State.feedIdle_shaft : (s.feedIdle).shaft = s.shaft := rfl
@[simp] theorem State.feedIdle_needles : (s.feedIdle).needles = s.needles := rfl
@[simp] theorem State.feedIdle_carriage : (s.feedIdle).carriage = s.carriage := rfl
@[simp] theorem State.feedIdle_heads : (s.feedIdle).heads = s.heads := rfl
@[simp] theorem State.feedIdle_enable : (s.feedIdle).enable = s.enable := rfl
@[simp] theorem State.feedIdle_conditions : (s.feedIdle).conditions = s.conditions := rfl
@[simp] theorem State.feedIdle_changes : (s.feedIdle).changes = s.changes := rfl
@[simp] theorem State.feedIdle_run : (s.feedIdle).run = s.run := rfl
@[simp] theorem State.feedIdle_haltLine : (s.feedIdle).haltLine = s.haltLine := rfl
@[simp] theorem State.feedIdle_stopLine : (s.feedIdle).stopLine = s.stopLine := rfl
@[simp] theorem State.feedIdle_free : (s.feedIdle).free = s.free := rfl
@[simp] theorem State.feedIdle_pending : (s.feedIdle).pending = s.pending := rfl

@[simp] theorem State.fetchAt_config (p : Position) : (s.fetchAt p).config = s.config := rfl
@[simp] theorem State.fetchAt_link (p : Position) : (s.fetchAt p).link = s.link := rfl
@[simp] theorem State.fetchAt_designs (p : Position) : (s.fetchAt p).designs = s.designs := rfl
@[simp] theorem State.fetchAt_load (p : Position) : (s.fetchAt p).load = s.load := rfl
@[simp] theorem State.fetchAt_store (p : Position) : (s.fetchAt p).store = s.store := rfl
@[simp] theorem State.fetchAt_burst (p : Position) : (s.fetchAt p).burst = s.burst := rfl
@[simp] theorem State.fetchAt_lastGranted (p : Position) : (s.fetchAt p).lastGranted = s.lastGranted := rfl
@[simp] theorem State.fetchAt_walk (p : Position) : (s.fetchAt p).walk = s.walk := rfl
@[simp] theorem State.fetchAt_queue (p : Position) : (s.fetchAt p).queue = s.queue := rfl
@[simp] theorem State.fetchAt_frame (p : Position) : (s.fetchAt p).frame = s.frame := rfl
@[simp] theorem State.fetchAt_shaft (p : Position) : (s.fetchAt p).shaft = s.shaft := rfl
@[simp] theorem State.fetchAt_needles (p : Position) : (s.fetchAt p).needles = s.needles := rfl
@[simp] theorem State.fetchAt_carriage (p : Position) : (s.fetchAt p).carriage = s.carriage := rfl
@[simp] theorem State.fetchAt_heads (p : Position) : (s.fetchAt p).heads = s.heads := rfl
@[simp] theorem State.fetchAt_enable (p : Position) : (s.fetchAt p).enable = s.enable := rfl
@[simp] theorem State.fetchAt_conditions (p : Position) : (s.fetchAt p).conditions = s.conditions := rfl
@[simp] theorem State.fetchAt_changes (p : Position) : (s.fetchAt p).changes = s.changes := rfl
@[simp] theorem State.fetchAt_run (p : Position) : (s.fetchAt p).run = s.run := rfl
@[simp] theorem State.fetchAt_haltLine (p : Position) : (s.fetchAt p).haltLine = s.haltLine := rfl
@[simp] theorem State.fetchAt_stopLine (p : Position) : (s.fetchAt p).stopLine = s.stopLine := rfl
@[simp] theorem State.fetchAt_free (p : Position) : (s.fetchAt p).free = s.free := rfl
@[simp] theorem State.fetchAt_pending (p : Position) : (s.fetchAt p).pending = s.pending := rfl

@[simp] theorem State.join_config (k : EntryKind) (p : Position) : (s.join k p).config = s.config := rfl
@[simp] theorem State.join_link (k : EntryKind) (p : Position) : (s.join k p).link = s.link := rfl
@[simp] theorem State.join_designs (k : EntryKind) (p : Position) : (s.join k p).designs = s.designs := rfl
@[simp] theorem State.join_load (k : EntryKind) (p : Position) : (s.join k p).load = s.load := rfl
@[simp] theorem State.join_store (k : EntryKind) (p : Position) : (s.join k p).store = s.store := rfl
@[simp] theorem State.join_burst (k : EntryKind) (p : Position) : (s.join k p).burst = s.burst := rfl
@[simp] theorem State.join_lastGranted (k : EntryKind) (p : Position) : (s.join k p).lastGranted = s.lastGranted := rfl
@[simp] theorem State.join_feed (k : EntryKind) (p : Position) : (s.join k p).feed = s.feed := rfl
@[simp] theorem State.join_walk (k : EntryKind) (p : Position) : (s.join k p).walk = s.walk := rfl
@[simp] theorem State.join_frame (k : EntryKind) (p : Position) : (s.join k p).frame = s.frame := rfl
@[simp] theorem State.join_shaft (k : EntryKind) (p : Position) : (s.join k p).shaft = s.shaft := rfl
@[simp] theorem State.join_needles (k : EntryKind) (p : Position) : (s.join k p).needles = s.needles := rfl
@[simp] theorem State.join_carriage (k : EntryKind) (p : Position) : (s.join k p).carriage = s.carriage := rfl
@[simp] theorem State.join_heads (k : EntryKind) (p : Position) : (s.join k p).heads = s.heads := rfl
@[simp] theorem State.join_enable (k : EntryKind) (p : Position) : (s.join k p).enable = s.enable := rfl
@[simp] theorem State.join_conditions (k : EntryKind) (p : Position) : (s.join k p).conditions = s.conditions := rfl
@[simp] theorem State.join_changes (k : EntryKind) (p : Position) : (s.join k p).changes = s.changes := rfl
@[simp] theorem State.join_run (k : EntryKind) (p : Position) : (s.join k p).run = s.run := rfl
@[simp] theorem State.join_haltLine (k : EntryKind) (p : Position) : (s.join k p).haltLine = s.haltLine := rfl
@[simp] theorem State.join_stopLine (k : EntryKind) (p : Position) : (s.join k p).stopLine = s.stopLine := rfl
@[simp] theorem State.join_free (k : EntryKind) (p : Position) : (s.join k p).free = s.free := rfl
@[simp] theorem State.join_pending (k : EntryKind) (p : Position) : (s.join k p).pending = s.pending := rfl

@[simp] theorem State.beginMove_config (k : MoveKind) (d : Point) : (s.beginMove k d).config = s.config := rfl
@[simp] theorem State.beginMove_link (k : MoveKind) (d : Point) : (s.beginMove k d).link = s.link := rfl
@[simp] theorem State.beginMove_designs (k : MoveKind) (d : Point) : (s.beginMove k d).designs = s.designs := rfl
@[simp] theorem State.beginMove_load (k : MoveKind) (d : Point) : (s.beginMove k d).load = s.load := rfl
@[simp] theorem State.beginMove_store (k : MoveKind) (d : Point) : (s.beginMove k d).store = s.store := rfl
@[simp] theorem State.beginMove_burst (k : MoveKind) (d : Point) : (s.beginMove k d).burst = s.burst := rfl
@[simp] theorem State.beginMove_lastGranted (k : MoveKind) (d : Point) : (s.beginMove k d).lastGranted = s.lastGranted := rfl
@[simp] theorem State.beginMove_feed (k : MoveKind) (d : Point) : (s.beginMove k d).feed = s.feed := rfl
@[simp] theorem State.beginMove_walk (k : MoveKind) (d : Point) : (s.beginMove k d).walk = s.walk := rfl
@[simp] theorem State.beginMove_queue (k : MoveKind) (d : Point) : (s.beginMove k d).queue = s.queue := rfl
@[simp] theorem State.beginMove_shaft (k : MoveKind) (d : Point) : (s.beginMove k d).shaft = s.shaft := rfl
@[simp] theorem State.beginMove_needles (k : MoveKind) (d : Point) : (s.beginMove k d).needles = s.needles := rfl
@[simp] theorem State.beginMove_carriage (k : MoveKind) (d : Point) : (s.beginMove k d).carriage = s.carriage := rfl
@[simp] theorem State.beginMove_heads (k : MoveKind) (d : Point) : (s.beginMove k d).heads = s.heads := rfl
@[simp] theorem State.beginMove_enable (k : MoveKind) (d : Point) : (s.beginMove k d).enable = s.enable := rfl
@[simp] theorem State.beginMove_conditions (k : MoveKind) (d : Point) : (s.beginMove k d).conditions = s.conditions := rfl
@[simp] theorem State.beginMove_changes (k : MoveKind) (d : Point) : (s.beginMove k d).changes = s.changes := rfl
@[simp] theorem State.beginMove_run (k : MoveKind) (d : Point) : (s.beginMove k d).run = s.run := rfl
@[simp] theorem State.beginMove_haltLine (k : MoveKind) (d : Point) : (s.beginMove k d).haltLine = s.haltLine := rfl
@[simp] theorem State.beginMove_stopLine (k : MoveKind) (d : Point) : (s.beginMove k d).stopLine = s.stopLine := rfl
@[simp] theorem State.beginMove_free (k : MoveKind) (d : Point) : (s.beginMove k d).free = s.free := rfl
@[simp] theorem State.beginMove_pending (k : MoveKind) (d : Point) : (s.beginMove k d).pending = s.pending := rfl

@[simp] theorem State.bandCheck_config : (s.bandCheck).config = s.config := rfl
@[simp] theorem State.bandCheck_link : (s.bandCheck).link = s.link := rfl
@[simp] theorem State.bandCheck_designs : (s.bandCheck).designs = s.designs := rfl
@[simp] theorem State.bandCheck_load : (s.bandCheck).load = s.load := rfl
@[simp] theorem State.bandCheck_store : (s.bandCheck).store = s.store := rfl
@[simp] theorem State.bandCheck_burst : (s.bandCheck).burst = s.burst := rfl
@[simp] theorem State.bandCheck_lastGranted : (s.bandCheck).lastGranted = s.lastGranted := rfl
@[simp] theorem State.bandCheck_feed : (s.bandCheck).feed = s.feed := rfl
@[simp] theorem State.bandCheck_walk : (s.bandCheck).walk = s.walk := rfl
@[simp] theorem State.bandCheck_queue : (s.bandCheck).queue = s.queue := rfl
@[simp] theorem State.bandCheck_frame : (s.bandCheck).frame = s.frame := rfl
@[simp] theorem State.bandCheck_needles : (s.bandCheck).needles = s.needles := rfl
@[simp] theorem State.bandCheck_carriage : (s.bandCheck).carriage = s.carriage := rfl
@[simp] theorem State.bandCheck_heads : (s.bandCheck).heads = s.heads := rfl
@[simp] theorem State.bandCheck_enable : (s.bandCheck).enable = s.enable := rfl
@[simp] theorem State.bandCheck_conditions : (s.bandCheck).conditions = s.conditions := rfl
@[simp] theorem State.bandCheck_changes : (s.bandCheck).changes = s.changes := rfl
@[simp] theorem State.bandCheck_run : (s.bandCheck).run = s.run := rfl
@[simp] theorem State.bandCheck_haltLine : (s.bandCheck).haltLine = s.haltLine := rfl
@[simp] theorem State.bandCheck_stopLine : (s.bandCheck).stopLine = s.stopLine := rfl
@[simp] theorem State.bandCheck_free : (s.bandCheck).free = s.free := rfl
@[simp] theorem State.bandCheck_pending : (s.bandCheck).pending = s.pending := rfl

@[simp] theorem State.park_config : (s.park).config = s.config := rfl
@[simp] theorem State.park_link : (s.park).link = s.link := rfl
@[simp] theorem State.park_designs : (s.park).designs = s.designs := rfl
@[simp] theorem State.park_load : (s.park).load = s.load := rfl
@[simp] theorem State.park_store : (s.park).store = s.store := rfl
@[simp] theorem State.park_burst : (s.park).burst = s.burst := rfl
@[simp] theorem State.park_lastGranted : (s.park).lastGranted = s.lastGranted := rfl
@[simp] theorem State.park_feed : (s.park).feed = s.feed := rfl
@[simp] theorem State.park_walk : (s.park).walk = s.walk := rfl
@[simp] theorem State.park_queue : (s.park).queue = s.queue := rfl
@[simp] theorem State.park_frame : (s.park).frame = s.frame := rfl
@[simp] theorem State.park_needles : (s.park).needles = s.needles := rfl
@[simp] theorem State.park_carriage : (s.park).carriage = s.carriage := rfl
@[simp] theorem State.park_heads : (s.park).heads = s.heads := rfl
@[simp] theorem State.park_enable : (s.park).enable = s.enable := rfl
@[simp] theorem State.park_conditions : (s.park).conditions = s.conditions := rfl
@[simp] theorem State.park_changes : (s.park).changes = s.changes := rfl
@[simp] theorem State.park_run : (s.park).run = s.run := rfl
@[simp] theorem State.park_haltLine : (s.park).haltLine = s.haltLine := rfl
@[simp] theorem State.park_stopLine : (s.park).stopLine = s.stopLine := rfl
@[simp] theorem State.park_free : (s.park).free = s.free := rfl
@[simp] theorem State.park_pending : (s.park).pending = s.pending := rfl

@[simp] theorem State.commitCap_config : (s.commitCap).config = s.config := rfl
@[simp] theorem State.commitCap_link : (s.commitCap).link = s.link := rfl
@[simp] theorem State.commitCap_designs : (s.commitCap).designs = s.designs := rfl
@[simp] theorem State.commitCap_load : (s.commitCap).load = s.load := rfl
@[simp] theorem State.commitCap_store : (s.commitCap).store = s.store := rfl
@[simp] theorem State.commitCap_burst : (s.commitCap).burst = s.burst := rfl
@[simp] theorem State.commitCap_lastGranted : (s.commitCap).lastGranted = s.lastGranted := rfl
@[simp] theorem State.commitCap_feed : (s.commitCap).feed = s.feed := rfl
@[simp] theorem State.commitCap_walk : (s.commitCap).walk = s.walk := rfl
@[simp] theorem State.commitCap_queue : (s.commitCap).queue = s.queue := rfl
@[simp] theorem State.commitCap_frame : (s.commitCap).frame = s.frame := rfl
@[simp] theorem State.commitCap_needles : (s.commitCap).needles = s.needles := rfl
@[simp] theorem State.commitCap_carriage : (s.commitCap).carriage = s.carriage := rfl
@[simp] theorem State.commitCap_heads : (s.commitCap).heads = s.heads := rfl
@[simp] theorem State.commitCap_enable : (s.commitCap).enable = s.enable := rfl
@[simp] theorem State.commitCap_conditions : (s.commitCap).conditions = s.conditions := rfl
@[simp] theorem State.commitCap_changes : (s.commitCap).changes = s.changes := rfl
@[simp] theorem State.commitCap_run : (s.commitCap).run = s.run := rfl
@[simp] theorem State.commitCap_haltLine : (s.commitCap).haltLine = s.haltLine := rfl
@[simp] theorem State.commitCap_stopLine : (s.commitCap).stopLine = s.stopLine := rfl
@[simp] theorem State.commitCap_free : (s.commitCap).free = s.free := rfl
@[simp] theorem State.commitCap_pending : (s.commitCap).pending = s.pending := rfl

@[simp] theorem State.commitSpeed_config (e : Entry) (rest : List Entry) : (s.commitSpeed e rest).config = s.config := rfl
@[simp] theorem State.commitSpeed_link (e : Entry) (rest : List Entry) : (s.commitSpeed e rest).link = s.link := rfl
@[simp] theorem State.commitSpeed_designs (e : Entry) (rest : List Entry) : (s.commitSpeed e rest).designs = s.designs := rfl
@[simp] theorem State.commitSpeed_load (e : Entry) (rest : List Entry) : (s.commitSpeed e rest).load = s.load := rfl
@[simp] theorem State.commitSpeed_store (e : Entry) (rest : List Entry) : (s.commitSpeed e rest).store = s.store := rfl
@[simp] theorem State.commitSpeed_burst (e : Entry) (rest : List Entry) : (s.commitSpeed e rest).burst = s.burst := rfl
@[simp] theorem State.commitSpeed_lastGranted (e : Entry) (rest : List Entry) : (s.commitSpeed e rest).lastGranted = s.lastGranted := rfl
@[simp] theorem State.commitSpeed_feed (e : Entry) (rest : List Entry) : (s.commitSpeed e rest).feed = s.feed := rfl
@[simp] theorem State.commitSpeed_walk (e : Entry) (rest : List Entry) : (s.commitSpeed e rest).walk = s.walk := rfl
@[simp] theorem State.commitSpeed_queue (e : Entry) (rest : List Entry) : (s.commitSpeed e rest).queue = s.queue := rfl
@[simp] theorem State.commitSpeed_frame (e : Entry) (rest : List Entry) : (s.commitSpeed e rest).frame = s.frame := rfl
@[simp] theorem State.commitSpeed_needles (e : Entry) (rest : List Entry) : (s.commitSpeed e rest).needles = s.needles := rfl
@[simp] theorem State.commitSpeed_carriage (e : Entry) (rest : List Entry) : (s.commitSpeed e rest).carriage = s.carriage := rfl
@[simp] theorem State.commitSpeed_heads (e : Entry) (rest : List Entry) : (s.commitSpeed e rest).heads = s.heads := rfl
@[simp] theorem State.commitSpeed_enable (e : Entry) (rest : List Entry) : (s.commitSpeed e rest).enable = s.enable := rfl
@[simp] theorem State.commitSpeed_conditions (e : Entry) (rest : List Entry) : (s.commitSpeed e rest).conditions = s.conditions := rfl
@[simp] theorem State.commitSpeed_changes (e : Entry) (rest : List Entry) : (s.commitSpeed e rest).changes = s.changes := rfl
@[simp] theorem State.commitSpeed_run (e : Entry) (rest : List Entry) : (s.commitSpeed e rest).run = s.run := rfl
@[simp] theorem State.commitSpeed_haltLine (e : Entry) (rest : List Entry) : (s.commitSpeed e rest).haltLine = s.haltLine := rfl
@[simp] theorem State.commitSpeed_stopLine (e : Entry) (rest : List Entry) : (s.commitSpeed e rest).stopLine = s.stopLine := rfl
@[simp] theorem State.commitSpeed_free (e : Entry) (rest : List Entry) : (s.commitSpeed e rest).free = s.free := rfl
@[simp] theorem State.commitSpeed_pending (e : Entry) (rest : List Entry) : (s.commitSpeed e rest).pending = s.pending := rfl

@[simp] theorem State.staleLoader_config : (s.staleLoader).config = s.config := rfl
@[simp] theorem State.staleLoader_link : (s.staleLoader).link = s.link := rfl
@[simp] theorem State.staleLoader_designs : (s.staleLoader).designs = s.designs := rfl
@[simp] theorem State.staleLoader_load : (s.staleLoader).load = s.load := rfl
@[simp] theorem State.staleLoader_store : (s.staleLoader).store = s.store := rfl
@[simp] theorem State.staleLoader_lastGranted : (s.staleLoader).lastGranted = s.lastGranted := rfl
@[simp] theorem State.staleLoader_feed : (s.staleLoader).feed = s.feed := rfl
@[simp] theorem State.staleLoader_walk : (s.staleLoader).walk = s.walk := rfl
@[simp] theorem State.staleLoader_queue : (s.staleLoader).queue = s.queue := rfl
@[simp] theorem State.staleLoader_frame : (s.staleLoader).frame = s.frame := rfl
@[simp] theorem State.staleLoader_shaft : (s.staleLoader).shaft = s.shaft := rfl
@[simp] theorem State.staleLoader_needles : (s.staleLoader).needles = s.needles := rfl
@[simp] theorem State.staleLoader_carriage : (s.staleLoader).carriage = s.carriage := rfl
@[simp] theorem State.staleLoader_heads : (s.staleLoader).heads = s.heads := rfl
@[simp] theorem State.staleLoader_enable : (s.staleLoader).enable = s.enable := rfl
@[simp] theorem State.staleLoader_conditions : (s.staleLoader).conditions = s.conditions := rfl
@[simp] theorem State.staleLoader_changes : (s.staleLoader).changes = s.changes := rfl
@[simp] theorem State.staleLoader_run : (s.staleLoader).run = s.run := rfl
@[simp] theorem State.staleLoader_haltLine : (s.staleLoader).haltLine = s.haltLine := rfl
@[simp] theorem State.staleLoader_stopLine : (s.staleLoader).stopLine = s.stopLine := rfl
@[simp] theorem State.staleLoader_free : (s.staleLoader).free = s.free := rfl
@[simp] theorem State.staleLoader_pending : (s.staleLoader).pending = s.pending := rfl

@[simp] theorem State.flush_config : (s.flush).config = s.config := rfl
@[simp] theorem State.flush_designs : (s.flush).designs = s.designs := rfl
@[simp] theorem State.flush_load : (s.flush).load = s.load := rfl
@[simp] theorem State.flush_store : (s.flush).store = s.store := rfl
@[simp] theorem State.flush_lastGranted : (s.flush).lastGranted = s.lastGranted := rfl
@[simp] theorem State.flush_walk : (s.flush).walk = s.walk := rfl
@[simp] theorem State.flush_frame : (s.flush).frame = s.frame := rfl
@[simp] theorem State.flush_needles : (s.flush).needles = s.needles := rfl
@[simp] theorem State.flush_carriage : (s.flush).carriage = s.carriage := rfl
@[simp] theorem State.flush_heads : (s.flush).heads = s.heads := rfl
@[simp] theorem State.flush_enable : (s.flush).enable = s.enable := rfl
@[simp] theorem State.flush_conditions : (s.flush).conditions = s.conditions := rfl
@[simp] theorem State.flush_changes : (s.flush).changes = s.changes := rfl
@[simp] theorem State.flush_haltLine : (s.flush).haltLine = s.haltLine := rfl
@[simp] theorem State.flush_stopLine : (s.flush).stopLine = s.stopLine := rfl
@[simp] theorem State.flush_free : (s.flush).free = s.free := rfl
@[simp] theorem State.flush_pending : (s.flush).pending = s.pending := rfl

@[simp] theorem State.enterStopped_config (r : StopReason) : (s.enterStopped r).config = s.config := rfl
@[simp] theorem State.enterStopped_designs (r : StopReason) : (s.enterStopped r).designs = s.designs := rfl
@[simp] theorem State.enterStopped_load (r : StopReason) : (s.enterStopped r).load = s.load := rfl
@[simp] theorem State.enterStopped_store (r : StopReason) : (s.enterStopped r).store = s.store := rfl
@[simp] theorem State.enterStopped_lastGranted (r : StopReason) : (s.enterStopped r).lastGranted = s.lastGranted := rfl
@[simp] theorem State.enterStopped_walk (r : StopReason) : (s.enterStopped r).walk = s.walk := rfl
@[simp] theorem State.enterStopped_frame (r : StopReason) : (s.enterStopped r).frame = s.frame := rfl
@[simp] theorem State.enterStopped_needles (r : StopReason) : (s.enterStopped r).needles = s.needles := rfl
@[simp] theorem State.enterStopped_carriage (r : StopReason) : (s.enterStopped r).carriage = s.carriage := rfl
@[simp] theorem State.enterStopped_heads (r : StopReason) : (s.enterStopped r).heads = s.heads := rfl
@[simp] theorem State.enterStopped_enable (r : StopReason) : (s.enterStopped r).enable = s.enable := rfl
@[simp] theorem State.enterStopped_conditions (r : StopReason) : (s.enterStopped r).conditions = s.conditions := rfl
@[simp] theorem State.enterStopped_changes (r : StopReason) : (s.enterStopped r).changes = s.changes := rfl
@[simp] theorem State.enterStopped_haltLine (r : StopReason) : (s.enterStopped r).haltLine = s.haltLine := rfl
@[simp] theorem State.enterStopped_stopLine (r : StopReason) : (s.enterStopped r).stopLine = s.stopLine := rfl
@[simp] theorem State.enterStopped_free (r : StopReason) : (s.enterStopped r).free = s.free := rfl
@[simp] theorem State.enterStopped_pending (r : StopReason) : (s.enterStopped r).pending = s.pending := rfl

@[simp] theorem State.arbitrate_config : (s.arbitrate).config = s.config := by
  unfold State.arbitrate; repeat' split
  all_goals rfl
@[simp] theorem State.arbitrate_link : (s.arbitrate).link = s.link := by
  unfold State.arbitrate; repeat' split
  all_goals rfl
@[simp] theorem State.arbitrate_designs : (s.arbitrate).designs = s.designs := by
  unfold State.arbitrate; repeat' split
  all_goals rfl
@[simp] theorem State.arbitrate_load : (s.arbitrate).load = s.load := by
  unfold State.arbitrate; repeat' split
  all_goals rfl
@[simp] theorem State.arbitrate_store : (s.arbitrate).store = s.store := by
  unfold State.arbitrate; repeat' split
  all_goals rfl
@[simp] theorem State.arbitrate_feed : (s.arbitrate).feed = s.feed := by
  unfold State.arbitrate; repeat' split
  all_goals rfl
@[simp] theorem State.arbitrate_walk : (s.arbitrate).walk = s.walk := by
  unfold State.arbitrate; repeat' split
  all_goals rfl
@[simp] theorem State.arbitrate_queue : (s.arbitrate).queue = s.queue := by
  unfold State.arbitrate; repeat' split
  all_goals rfl
@[simp] theorem State.arbitrate_frame : (s.arbitrate).frame = s.frame := by
  unfold State.arbitrate; repeat' split
  all_goals rfl
@[simp] theorem State.arbitrate_shaft : (s.arbitrate).shaft = s.shaft := by
  unfold State.arbitrate; repeat' split
  all_goals rfl
@[simp] theorem State.arbitrate_needles : (s.arbitrate).needles = s.needles := by
  unfold State.arbitrate; repeat' split
  all_goals rfl
@[simp] theorem State.arbitrate_carriage : (s.arbitrate).carriage = s.carriage := by
  unfold State.arbitrate; repeat' split
  all_goals rfl
@[simp] theorem State.arbitrate_heads : (s.arbitrate).heads = s.heads := by
  unfold State.arbitrate; repeat' split
  all_goals rfl
@[simp] theorem State.arbitrate_enable : (s.arbitrate).enable = s.enable := by
  unfold State.arbitrate; repeat' split
  all_goals rfl
@[simp] theorem State.arbitrate_conditions : (s.arbitrate).conditions = s.conditions := by
  unfold State.arbitrate; repeat' split
  all_goals rfl
@[simp] theorem State.arbitrate_changes : (s.arbitrate).changes = s.changes := by
  unfold State.arbitrate; repeat' split
  all_goals rfl
@[simp] theorem State.arbitrate_run : (s.arbitrate).run = s.run := by
  unfold State.arbitrate; repeat' split
  all_goals rfl
@[simp] theorem State.arbitrate_haltLine : (s.arbitrate).haltLine = s.haltLine := by
  unfold State.arbitrate; repeat' split
  all_goals rfl
@[simp] theorem State.arbitrate_stopLine : (s.arbitrate).stopLine = s.stopLine := by
  unfold State.arbitrate; repeat' split
  all_goals rfl
@[simp] theorem State.arbitrate_free : (s.arbitrate).free = s.free := by
  unfold State.arbitrate; repeat' split
  all_goals rfl
@[simp] theorem State.arbitrate_pending : (s.arbitrate).pending = s.pending := by
  unfold State.arbitrate; repeat' split
  all_goals rfl

@[simp] theorem State.clearCause_config (k : Key) : (s.clearCause k).config = s.config := by
  unfold State.clearCause; split <;> rfl
@[simp] theorem State.clearCause_link (k : Key) : (s.clearCause k).link = s.link := by
  unfold State.clearCause; split <;> rfl
@[simp] theorem State.clearCause_designs (k : Key) : (s.clearCause k).designs = s.designs := by
  unfold State.clearCause; split <;> rfl
@[simp] theorem State.clearCause_load (k : Key) : (s.clearCause k).load = s.load := by
  unfold State.clearCause; split <;> rfl
@[simp] theorem State.clearCause_store (k : Key) : (s.clearCause k).store = s.store := by
  unfold State.clearCause; split <;> rfl
@[simp] theorem State.clearCause_burst (k : Key) : (s.clearCause k).burst = s.burst := by
  unfold State.clearCause; split <;> rfl
@[simp] theorem State.clearCause_lastGranted (k : Key) : (s.clearCause k).lastGranted = s.lastGranted := by
  unfold State.clearCause; split <;> rfl
@[simp] theorem State.clearCause_feed (k : Key) : (s.clearCause k).feed = s.feed := by
  unfold State.clearCause; split <;> rfl
@[simp] theorem State.clearCause_walk (k : Key) : (s.clearCause k).walk = s.walk := by
  unfold State.clearCause; split <;> rfl
@[simp] theorem State.clearCause_queue (k : Key) : (s.clearCause k).queue = s.queue := by
  unfold State.clearCause; split <;> rfl
@[simp] theorem State.clearCause_frame (k : Key) : (s.clearCause k).frame = s.frame := by
  unfold State.clearCause; split <;> rfl
@[simp] theorem State.clearCause_shaft (k : Key) : (s.clearCause k).shaft = s.shaft := by
  unfold State.clearCause; split <;> rfl
@[simp] theorem State.clearCause_needles (k : Key) : (s.clearCause k).needles = s.needles := by
  unfold State.clearCause; split <;> rfl
@[simp] theorem State.clearCause_carriage (k : Key) : (s.clearCause k).carriage = s.carriage := by
  unfold State.clearCause; split <;> rfl
@[simp] theorem State.clearCause_heads (k : Key) : (s.clearCause k).heads = s.heads := by
  unfold State.clearCause; split <;> rfl
@[simp] theorem State.clearCause_enable (k : Key) : (s.clearCause k).enable = s.enable := by
  unfold State.clearCause; split <;> rfl
@[simp] theorem State.clearCause_run (k : Key) : (s.clearCause k).run = s.run := by
  unfold State.clearCause; split <;> rfl
@[simp] theorem State.clearCause_haltLine (k : Key) : (s.clearCause k).haltLine = s.haltLine := by
  unfold State.clearCause; split <;> rfl
@[simp] theorem State.clearCause_stopLine (k : Key) : (s.clearCause k).stopLine = s.stopLine := by
  unfold State.clearCause; split <;> rfl
@[simp] theorem State.clearCause_free (k : Key) : (s.clearCause k).free = s.free := by
  unfold State.clearCause; split <;> rfl
@[simp] theorem State.clearCause_pending (k : Key) : (s.clearCause k).pending = s.pending := by
  unfold State.clearCause; split <;> rfl

@[simp] theorem State.acknowledge_config (k : Key) : (s.acknowledge k).config = s.config := by
  unfold State.acknowledge; repeat' split
  all_goals rfl
@[simp] theorem State.acknowledge_link (k : Key) : (s.acknowledge k).link = s.link := by
  unfold State.acknowledge; repeat' split
  all_goals rfl
@[simp] theorem State.acknowledge_designs (k : Key) : (s.acknowledge k).designs = s.designs := by
  unfold State.acknowledge; repeat' split
  all_goals rfl
@[simp] theorem State.acknowledge_load (k : Key) : (s.acknowledge k).load = s.load := by
  unfold State.acknowledge; repeat' split
  all_goals rfl
@[simp] theorem State.acknowledge_store (k : Key) : (s.acknowledge k).store = s.store := by
  unfold State.acknowledge; repeat' split
  all_goals rfl
@[simp] theorem State.acknowledge_burst (k : Key) : (s.acknowledge k).burst = s.burst := by
  unfold State.acknowledge; repeat' split
  all_goals rfl
@[simp] theorem State.acknowledge_lastGranted (k : Key) : (s.acknowledge k).lastGranted = s.lastGranted := by
  unfold State.acknowledge; repeat' split
  all_goals rfl
@[simp] theorem State.acknowledge_feed (k : Key) : (s.acknowledge k).feed = s.feed := by
  unfold State.acknowledge; repeat' split
  all_goals rfl
@[simp] theorem State.acknowledge_walk (k : Key) : (s.acknowledge k).walk = s.walk := by
  unfold State.acknowledge; repeat' split
  all_goals rfl
@[simp] theorem State.acknowledge_queue (k : Key) : (s.acknowledge k).queue = s.queue := by
  unfold State.acknowledge; repeat' split
  all_goals rfl
@[simp] theorem State.acknowledge_frame (k : Key) : (s.acknowledge k).frame = s.frame := by
  unfold State.acknowledge; repeat' split
  all_goals rfl
@[simp] theorem State.acknowledge_shaft (k : Key) : (s.acknowledge k).shaft = s.shaft := by
  unfold State.acknowledge; repeat' split
  all_goals rfl
@[simp] theorem State.acknowledge_needles (k : Key) : (s.acknowledge k).needles = s.needles := by
  unfold State.acknowledge; repeat' split
  all_goals rfl
@[simp] theorem State.acknowledge_carriage (k : Key) : (s.acknowledge k).carriage = s.carriage := by
  unfold State.acknowledge; repeat' split
  all_goals rfl
@[simp] theorem State.acknowledge_heads (k : Key) : (s.acknowledge k).heads = s.heads := by
  unfold State.acknowledge; repeat' split
  all_goals rfl
@[simp] theorem State.acknowledge_enable (k : Key) : (s.acknowledge k).enable = s.enable := by
  unfold State.acknowledge; repeat' split
  all_goals rfl
@[simp] theorem State.acknowledge_run (k : Key) : (s.acknowledge k).run = s.run := by
  unfold State.acknowledge; repeat' split
  all_goals rfl
@[simp] theorem State.acknowledge_haltLine (k : Key) : (s.acknowledge k).haltLine = s.haltLine := by
  unfold State.acknowledge; repeat' split
  all_goals rfl
@[simp] theorem State.acknowledge_stopLine (k : Key) : (s.acknowledge k).stopLine = s.stopLine := by
  unfold State.acknowledge; repeat' split
  all_goals rfl
@[simp] theorem State.acknowledge_free (k : Key) : (s.acknowledge k).free = s.free := by
  unfold State.acknowledge; repeat' split
  all_goals rfl
@[simp] theorem State.acknowledge_pending (k : Key) : (s.acknowledge k).pending = s.pending := by
  unfold State.acknowledge; repeat' split
  all_goals rfl

@[simp] theorem State.requestStop_config (r : StopReason) : (s.requestStop r).config = s.config := by
  unfold State.requestStop; repeat' split
  all_goals rfl
@[simp] theorem State.requestStop_link (r : StopReason) : (s.requestStop r).link = s.link := by
  unfold State.requestStop; repeat' split
  all_goals rfl
@[simp] theorem State.requestStop_designs (r : StopReason) : (s.requestStop r).designs = s.designs := by
  unfold State.requestStop; repeat' split
  all_goals rfl
@[simp] theorem State.requestStop_load (r : StopReason) : (s.requestStop r).load = s.load := by
  unfold State.requestStop; repeat' split
  all_goals rfl
@[simp] theorem State.requestStop_store (r : StopReason) : (s.requestStop r).store = s.store := by
  unfold State.requestStop; repeat' split
  all_goals rfl
@[simp] theorem State.requestStop_burst (r : StopReason) : (s.requestStop r).burst = s.burst := by
  unfold State.requestStop; repeat' split
  all_goals rfl
@[simp] theorem State.requestStop_lastGranted (r : StopReason) : (s.requestStop r).lastGranted = s.lastGranted := by
  unfold State.requestStop; repeat' split
  all_goals rfl
@[simp] theorem State.requestStop_feed (r : StopReason) : (s.requestStop r).feed = s.feed := by
  unfold State.requestStop; repeat' split
  all_goals rfl
@[simp] theorem State.requestStop_walk (r : StopReason) : (s.requestStop r).walk = s.walk := by
  unfold State.requestStop; repeat' split
  all_goals rfl
@[simp] theorem State.requestStop_queue (r : StopReason) : (s.requestStop r).queue = s.queue := by
  unfold State.requestStop; repeat' split
  all_goals rfl
@[simp] theorem State.requestStop_frame (r : StopReason) : (s.requestStop r).frame = s.frame := by
  unfold State.requestStop; repeat' split
  all_goals rfl
@[simp] theorem State.requestStop_needles (r : StopReason) : (s.requestStop r).needles = s.needles := by
  unfold State.requestStop; repeat' split
  all_goals rfl
@[simp] theorem State.requestStop_carriage (r : StopReason) : (s.requestStop r).carriage = s.carriage := by
  unfold State.requestStop; repeat' split
  all_goals rfl
@[simp] theorem State.requestStop_heads (r : StopReason) : (s.requestStop r).heads = s.heads := by
  unfold State.requestStop; repeat' split
  all_goals rfl
@[simp] theorem State.requestStop_enable (r : StopReason) : (s.requestStop r).enable = s.enable := by
  unfold State.requestStop; repeat' split
  all_goals rfl
@[simp] theorem State.requestStop_conditions (r : StopReason) : (s.requestStop r).conditions = s.conditions := by
  unfold State.requestStop; repeat' split
  all_goals rfl
@[simp] theorem State.requestStop_changes (r : StopReason) : (s.requestStop r).changes = s.changes := by
  unfold State.requestStop; repeat' split
  all_goals rfl
@[simp] theorem State.requestStop_haltLine (r : StopReason) : (s.requestStop r).haltLine = s.haltLine := by
  unfold State.requestStop; repeat' split
  all_goals rfl
@[simp] theorem State.requestStop_stopLine (r : StopReason) : (s.requestStop r).stopLine = s.stopLine := by
  unfold State.requestStop; repeat' split
  all_goals rfl
@[simp] theorem State.requestStop_free (r : StopReason) : (s.requestStop r).free = s.free := by
  unfold State.requestStop; repeat' split
  all_goals rfl
@[simp] theorem State.requestStop_pending (r : StopReason) : (s.requestStop r).pending = s.pending := by
  unfold State.requestStop; repeat' split
  all_goals rfl

@[simp] theorem State.latchesOffAtRest_config : (s.latchesOffAtRest).config = s.config := by
  unfold State.latchesOffAtRest; split <;> rfl
@[simp] theorem State.latchesOffAtRest_link : (s.latchesOffAtRest).link = s.link := by
  unfold State.latchesOffAtRest; split <;> rfl
@[simp] theorem State.latchesOffAtRest_designs : (s.latchesOffAtRest).designs = s.designs := by
  unfold State.latchesOffAtRest; split <;> rfl
@[simp] theorem State.latchesOffAtRest_load : (s.latchesOffAtRest).load = s.load := by
  unfold State.latchesOffAtRest; split <;> rfl
@[simp] theorem State.latchesOffAtRest_store : (s.latchesOffAtRest).store = s.store := by
  unfold State.latchesOffAtRest; split <;> rfl
@[simp] theorem State.latchesOffAtRest_burst : (s.latchesOffAtRest).burst = s.burst := by
  unfold State.latchesOffAtRest; split <;> rfl
@[simp] theorem State.latchesOffAtRest_lastGranted : (s.latchesOffAtRest).lastGranted = s.lastGranted := by
  unfold State.latchesOffAtRest; split <;> rfl
@[simp] theorem State.latchesOffAtRest_feed : (s.latchesOffAtRest).feed = s.feed := by
  unfold State.latchesOffAtRest; split <;> rfl
@[simp] theorem State.latchesOffAtRest_walk : (s.latchesOffAtRest).walk = s.walk := by
  unfold State.latchesOffAtRest; split <;> rfl
@[simp] theorem State.latchesOffAtRest_queue : (s.latchesOffAtRest).queue = s.queue := by
  unfold State.latchesOffAtRest; split <;> rfl
@[simp] theorem State.latchesOffAtRest_frame : (s.latchesOffAtRest).frame = s.frame := by
  unfold State.latchesOffAtRest; split <;> rfl
@[simp] theorem State.latchesOffAtRest_shaft : (s.latchesOffAtRest).shaft = s.shaft := by
  unfold State.latchesOffAtRest; split <;> rfl
@[simp] theorem State.latchesOffAtRest_needles : (s.latchesOffAtRest).needles = s.needles := by
  unfold State.latchesOffAtRest; split <;> rfl
@[simp] theorem State.latchesOffAtRest_carriage : (s.latchesOffAtRest).carriage = s.carriage := by
  unfold State.latchesOffAtRest; split <;> rfl
@[simp] theorem State.latchesOffAtRest_enable : (s.latchesOffAtRest).enable = s.enable := by
  unfold State.latchesOffAtRest; split <;> rfl
@[simp] theorem State.latchesOffAtRest_conditions : (s.latchesOffAtRest).conditions = s.conditions := by
  unfold State.latchesOffAtRest; split <;> rfl
@[simp] theorem State.latchesOffAtRest_changes : (s.latchesOffAtRest).changes = s.changes := by
  unfold State.latchesOffAtRest; split <;> rfl
@[simp] theorem State.latchesOffAtRest_run : (s.latchesOffAtRest).run = s.run := by
  unfold State.latchesOffAtRest; split <;> rfl
@[simp] theorem State.latchesOffAtRest_haltLine : (s.latchesOffAtRest).haltLine = s.haltLine := by
  unfold State.latchesOffAtRest; split <;> rfl
@[simp] theorem State.latchesOffAtRest_stopLine : (s.latchesOffAtRest).stopLine = s.stopLine := by
  unfold State.latchesOffAtRest; split <;> rfl
@[simp] theorem State.latchesOffAtRest_free : (s.latchesOffAtRest).free = s.free := by
  unfold State.latchesOffAtRest; split <;> rfl
@[simp] theorem State.latchesOffAtRest_pending : (s.latchesOffAtRest).pending = s.pending := by
  unfold State.latchesOffAtRest; split <;> rfl

@[simp] theorem State.noHeadsTest_config : (s.noHeadsTest).config = s.config := by
  unfold State.noHeadsTest; split <;> simp
@[simp] theorem State.noHeadsTest_link : (s.noHeadsTest).link = s.link := by
  unfold State.noHeadsTest; split <;> simp
@[simp] theorem State.noHeadsTest_designs : (s.noHeadsTest).designs = s.designs := by
  unfold State.noHeadsTest; split <;> simp
@[simp] theorem State.noHeadsTest_load : (s.noHeadsTest).load = s.load := by
  unfold State.noHeadsTest; split <;> simp
@[simp] theorem State.noHeadsTest_store : (s.noHeadsTest).store = s.store := by
  unfold State.noHeadsTest; split <;> simp
@[simp] theorem State.noHeadsTest_burst : (s.noHeadsTest).burst = s.burst := by
  unfold State.noHeadsTest; split <;> simp
@[simp] theorem State.noHeadsTest_lastGranted : (s.noHeadsTest).lastGranted = s.lastGranted := by
  unfold State.noHeadsTest; split <;> simp
@[simp] theorem State.noHeadsTest_feed : (s.noHeadsTest).feed = s.feed := by
  unfold State.noHeadsTest; split <;> simp
@[simp] theorem State.noHeadsTest_walk : (s.noHeadsTest).walk = s.walk := by
  unfold State.noHeadsTest; split <;> simp
@[simp] theorem State.noHeadsTest_queue : (s.noHeadsTest).queue = s.queue := by
  unfold State.noHeadsTest; split <;> simp
@[simp] theorem State.noHeadsTest_frame : (s.noHeadsTest).frame = s.frame := by
  unfold State.noHeadsTest; split <;> simp
@[simp] theorem State.noHeadsTest_needles : (s.noHeadsTest).needles = s.needles := by
  unfold State.noHeadsTest; split <;> simp
@[simp] theorem State.noHeadsTest_carriage : (s.noHeadsTest).carriage = s.carriage := by
  unfold State.noHeadsTest; split <;> simp
@[simp] theorem State.noHeadsTest_heads : (s.noHeadsTest).heads = s.heads := by
  unfold State.noHeadsTest; split <;> simp
@[simp] theorem State.noHeadsTest_enable : (s.noHeadsTest).enable = s.enable := by
  unfold State.noHeadsTest; split <;> simp
@[simp] theorem State.noHeadsTest_conditions : (s.noHeadsTest).conditions = s.conditions := by
  unfold State.noHeadsTest; split <;> simp
@[simp] theorem State.noHeadsTest_changes : (s.noHeadsTest).changes = s.changes := by
  unfold State.noHeadsTest; split <;> simp
@[simp] theorem State.noHeadsTest_haltLine : (s.noHeadsTest).haltLine = s.haltLine := by
  unfold State.noHeadsTest; split <;> simp
@[simp] theorem State.noHeadsTest_stopLine : (s.noHeadsTest).stopLine = s.stopLine := by
  unfold State.noHeadsTest; split <;> simp
@[simp] theorem State.noHeadsTest_free : (s.noHeadsTest).free = s.free := by
  unfold State.noHeadsTest; split <;> simp
@[simp] theorem State.noHeadsTest_pending : (s.noHeadsTest).pending = s.pending := by
  unfold State.noHeadsTest; split <;> simp

@[simp] theorem State.breakNeedle_config (h : Head) : (s.breakNeedle h).config = s.config := by
  unfold State.breakNeedle; split <;> rfl
@[simp] theorem State.breakNeedle_link (h : Head) : (s.breakNeedle h).link = s.link := by
  unfold State.breakNeedle; split <;> rfl
@[simp] theorem State.breakNeedle_designs (h : Head) : (s.breakNeedle h).designs = s.designs := by
  unfold State.breakNeedle; split <;> rfl
@[simp] theorem State.breakNeedle_load (h : Head) : (s.breakNeedle h).load = s.load := by
  unfold State.breakNeedle; split <;> rfl
@[simp] theorem State.breakNeedle_store (h : Head) : (s.breakNeedle h).store = s.store := by
  unfold State.breakNeedle; split <;> rfl
@[simp] theorem State.breakNeedle_burst (h : Head) : (s.breakNeedle h).burst = s.burst := by
  unfold State.breakNeedle; split <;> rfl
@[simp] theorem State.breakNeedle_lastGranted (h : Head) : (s.breakNeedle h).lastGranted = s.lastGranted := by
  unfold State.breakNeedle; split <;> rfl
@[simp] theorem State.breakNeedle_feed (h : Head) : (s.breakNeedle h).feed = s.feed := by
  unfold State.breakNeedle; split <;> rfl
@[simp] theorem State.breakNeedle_walk (h : Head) : (s.breakNeedle h).walk = s.walk := by
  unfold State.breakNeedle; split <;> rfl
@[simp] theorem State.breakNeedle_queue (h : Head) : (s.breakNeedle h).queue = s.queue := by
  unfold State.breakNeedle; split <;> rfl
@[simp] theorem State.breakNeedle_frame (h : Head) : (s.breakNeedle h).frame = s.frame := by
  unfold State.breakNeedle; split <;> rfl
@[simp] theorem State.breakNeedle_shaft (h : Head) : (s.breakNeedle h).shaft = s.shaft := by
  unfold State.breakNeedle; split <;> rfl
@[simp] theorem State.breakNeedle_carriage (h : Head) : (s.breakNeedle h).carriage = s.carriage := by
  unfold State.breakNeedle; split <;> rfl
@[simp] theorem State.breakNeedle_heads (h : Head) : (s.breakNeedle h).heads = s.heads := by
  unfold State.breakNeedle; split <;> rfl
@[simp] theorem State.breakNeedle_enable (h : Head) : (s.breakNeedle h).enable = s.enable := by
  unfold State.breakNeedle; split <;> rfl
@[simp] theorem State.breakNeedle_conditions (h : Head) : (s.breakNeedle h).conditions = s.conditions := by
  unfold State.breakNeedle; split <;> rfl
@[simp] theorem State.breakNeedle_changes (h : Head) : (s.breakNeedle h).changes = s.changes := by
  unfold State.breakNeedle; split <;> rfl
@[simp] theorem State.breakNeedle_run (h : Head) : (s.breakNeedle h).run = s.run := by
  unfold State.breakNeedle; split <;> rfl
@[simp] theorem State.breakNeedle_haltLine (h : Head) : (s.breakNeedle h).haltLine = s.haltLine := by
  unfold State.breakNeedle; split <;> rfl
@[simp] theorem State.breakNeedle_stopLine (h : Head) : (s.breakNeedle h).stopLine = s.stopLine := by
  unfold State.breakNeedle; split <;> rfl
@[simp] theorem State.breakNeedle_free (h : Head) : (s.breakNeedle h).free = s.free := by
  unfold State.breakNeedle; split <;> rfl
@[simp] theorem State.breakNeedle_pending (h : Head) : (s.breakNeedle h).pending = s.pending := by
  unfold State.breakNeedle; split <;> rfl

/-- A fold of operations keeps what each of them keeps. -/
theorem foldl_keeps {α β γ : Type} (g : β → γ) (f : β → α → β) (h : ∀ b a, g (f b a) = g b) (xs : List α) (b : β) :
    g (xs.foldl f b) = g b := by
  induction xs generalizing b with
  | nil => rfl
  | cons x xs ih => rw [List.foldl_cons, ih, h]

@[simp] theorem State.testThreadBreaks_config : s.testThreadBreaks.config = s.config := by
  unfold State.testThreadBreaks
  exact foldl_keeps (fun t : State => t.config) _ (fun t h => by split <;> simp) allHeads s
@[simp] theorem State.testThreadBreaks_link : s.testThreadBreaks.link = s.link := by
  unfold State.testThreadBreaks
  exact foldl_keeps (fun t : State => t.link) _ (fun t h => by split <;> simp) allHeads s
@[simp] theorem State.testThreadBreaks_designs : s.testThreadBreaks.designs = s.designs := by
  unfold State.testThreadBreaks
  exact foldl_keeps (fun t : State => t.designs) _ (fun t h => by split <;> simp) allHeads s
@[simp] theorem State.testThreadBreaks_load : s.testThreadBreaks.load = s.load := by
  unfold State.testThreadBreaks
  exact foldl_keeps (fun t : State => t.load) _ (fun t h => by split <;> simp) allHeads s
@[simp] theorem State.testThreadBreaks_store : s.testThreadBreaks.store = s.store := by
  unfold State.testThreadBreaks
  exact foldl_keeps (fun t : State => t.store) _ (fun t h => by split <;> simp) allHeads s
@[simp] theorem State.testThreadBreaks_burst : s.testThreadBreaks.burst = s.burst := by
  unfold State.testThreadBreaks
  exact foldl_keeps (fun t : State => t.burst) _ (fun t h => by split <;> simp) allHeads s
@[simp] theorem State.testThreadBreaks_lastGranted : s.testThreadBreaks.lastGranted = s.lastGranted := by
  unfold State.testThreadBreaks
  exact foldl_keeps (fun t : State => t.lastGranted) _ (fun t h => by split <;> simp) allHeads s
@[simp] theorem State.testThreadBreaks_feed : s.testThreadBreaks.feed = s.feed := by
  unfold State.testThreadBreaks
  exact foldl_keeps (fun t : State => t.feed) _ (fun t h => by split <;> simp) allHeads s
@[simp] theorem State.testThreadBreaks_walk : s.testThreadBreaks.walk = s.walk := by
  unfold State.testThreadBreaks
  exact foldl_keeps (fun t : State => t.walk) _ (fun t h => by split <;> simp) allHeads s
@[simp] theorem State.testThreadBreaks_queue : s.testThreadBreaks.queue = s.queue := by
  unfold State.testThreadBreaks
  exact foldl_keeps (fun t : State => t.queue) _ (fun t h => by split <;> simp) allHeads s
@[simp] theorem State.testThreadBreaks_frame : s.testThreadBreaks.frame = s.frame := by
  unfold State.testThreadBreaks
  exact foldl_keeps (fun t : State => t.frame) _ (fun t h => by split <;> simp) allHeads s
@[simp] theorem State.testThreadBreaks_shaft : s.testThreadBreaks.shaft = s.shaft := by
  unfold State.testThreadBreaks
  exact foldl_keeps (fun t : State => t.shaft) _ (fun t h => by split <;> simp) allHeads s
@[simp] theorem State.testThreadBreaks_needles : s.testThreadBreaks.needles = s.needles := by
  unfold State.testThreadBreaks
  exact foldl_keeps (fun t : State => t.needles) _ (fun t h => by split <;> simp) allHeads s
@[simp] theorem State.testThreadBreaks_carriage : s.testThreadBreaks.carriage = s.carriage := by
  unfold State.testThreadBreaks
  exact foldl_keeps (fun t : State => t.carriage) _ (fun t h => by split <;> simp) allHeads s
@[simp] theorem State.testThreadBreaks_heads : s.testThreadBreaks.heads = s.heads := by
  unfold State.testThreadBreaks
  exact foldl_keeps (fun t : State => t.heads) _ (fun t h => by split <;> simp) allHeads s
@[simp] theorem State.testThreadBreaks_enable : s.testThreadBreaks.enable = s.enable := by
  unfold State.testThreadBreaks
  exact foldl_keeps (fun t : State => t.enable) _ (fun t h => by split <;> simp) allHeads s
@[simp] theorem State.testThreadBreaks_run : s.testThreadBreaks.run = s.run := by
  unfold State.testThreadBreaks
  exact foldl_keeps (fun t : State => t.run) _ (fun t h => by split <;> simp) allHeads s
@[simp] theorem State.testThreadBreaks_haltLine : s.testThreadBreaks.haltLine = s.haltLine := by
  unfold State.testThreadBreaks
  exact foldl_keeps (fun t : State => t.haltLine) _ (fun t h => by split <;> simp) allHeads s
@[simp] theorem State.testThreadBreaks_stopLine : s.testThreadBreaks.stopLine = s.stopLine := by
  unfold State.testThreadBreaks
  exact foldl_keeps (fun t : State => t.stopLine) _ (fun t h => by split <;> simp) allHeads s
@[simp] theorem State.testThreadBreaks_free : s.testThreadBreaks.free = s.free := by
  unfold State.testThreadBreaks
  exact foldl_keeps (fun t : State => t.free) _ (fun t h => by split <;> simp) allHeads s
@[simp] theorem State.testThreadBreaks_pending : s.testThreadBreaks.pending = s.pending := by
  unfold State.testThreadBreaks
  exact foldl_keeps (fun t : State => t.pending) _ (fun t h => by split <;> simp) allHeads s

@[simp] theorem State.rejoin_config : s.rejoin.config = s.config := by simp [State.rejoin]
@[simp] theorem State.rejoin_link : s.rejoin.link = s.link := by simp [State.rejoin]
@[simp] theorem State.rejoin_designs : s.rejoin.designs = s.designs := by simp [State.rejoin]
@[simp] theorem State.rejoin_load : s.rejoin.load = s.load := by simp [State.rejoin]
@[simp] theorem State.rejoin_store : s.rejoin.store = s.store := by simp [State.rejoin]
@[simp] theorem State.rejoin_burst : s.rejoin.burst = s.burst := by simp [State.rejoin]
@[simp] theorem State.rejoin_lastGranted : s.rejoin.lastGranted = s.lastGranted := by simp [State.rejoin]
@[simp] theorem State.rejoin_feed : s.rejoin.feed = s.feed := by simp [State.rejoin]
@[simp] theorem State.rejoin_walk : s.rejoin.walk = s.walk := by simp [State.rejoin]
@[simp] theorem State.rejoin_queue : s.rejoin.queue = s.queue := by simp [State.rejoin]
@[simp] theorem State.rejoin_frame : s.rejoin.frame = s.frame := by simp [State.rejoin]
@[simp] theorem State.rejoin_shaft : s.rejoin.shaft = s.shaft := by simp [State.rejoin]
@[simp] theorem State.rejoin_needles : s.rejoin.needles = s.needles := by simp [State.rejoin]
@[simp] theorem State.rejoin_carriage : s.rejoin.carriage = s.carriage := by simp [State.rejoin]
@[simp] theorem State.rejoin_enable : s.rejoin.enable = s.enable := by simp [State.rejoin]
@[simp] theorem State.rejoin_run : s.rejoin.run = s.run := by simp [State.rejoin]
@[simp] theorem State.rejoin_haltLine : s.rejoin.haltLine = s.haltLine := by simp [State.rejoin]
@[simp] theorem State.rejoin_stopLine : s.rejoin.stopLine = s.stopLine := by simp [State.rejoin]
@[simp] theorem State.rejoin_free : s.rejoin.free = s.free := by simp [State.rejoin]
@[simp] theorem State.rejoin_pending : s.rejoin.pending = s.pending := by simp [State.rejoin]

/-! ## The shaft at a halt -/

/-- A halt disables the drive and discards what was begun; all it leaves open is whether the shaft is STILL or
COASTING (R108). -/
theorem Shaft.halt_eq (sh : Shaft) : sh.halt = { sh.release with state := sh.halt.state } := by
  unfold Shaft.halt
  split <;> rfl

@[simp] theorem Shaft.halt_command (sh : Shaft) : sh.halt.command = 0 := by rw [Shaft.halt_eq]; rfl
@[simp] theorem Shaft.halt_enable (sh : Shaft) : sh.halt.enable = false := by rw [Shaft.halt_eq]; rfl
@[simp] theorem Shaft.halt_active (sh : Shaft) : sh.halt.active = none := by rw [Shaft.halt_eq]; rfl
@[simp] theorem Shaft.halt_pendingFlag (sh : Shaft) : sh.halt.pendingFlag = false := by rw [Shaft.halt_eq]; rfl
@[simp] theorem Shaft.halt_atRest (sh : Shaft) : sh.halt.atRest = sh.atRest := by rw [Shaft.halt_eq]; rfl
@[simp] theorem Shaft.halt_angle (sh : Shaft) : sh.halt.angle = sh.angle := by rw [Shaft.halt_eq]; rfl

/-- A halted shaft is STILL or COASTING (R92, R108). -/
theorem Shaft.halt_state (sh : Shaft) : sh.halt.state = .still ∨ sh.halt.state = .coasting := by
  unfold Shaft.halt Shaft.release
  split
  · exact .inl rfl
  · by_cases h : sh.atRest = true <;> simp [h]

/-- The band check changes the command and the shaft state alone, to 0 and to STILL at TDC (R92). -/
theorem Shaft.bandCheck_cases (cfg : Configuration) (sh : Shaft) :
    sh.bandCheck cfg = sh ∨
    inBand cfg sh.angle = true ∧
      sh.bandCheck cfg = { sh with command := 0, state := if sh.atRest then .still else sh.state } := by
  unfold Shaft.bandCheck
  split
  · rename_i h; exact .inr ⟨h.1, rfl⟩
  · exact .inl rfl

end Sys2Proof.Machine
end

