-- ==== Sys2Proof/Laws/Inert.lean ====
section
/-! SUPPORT. What no event of the running machine changes: the configuration, the store, the design table,
the load, the enable mask, the input lines, the free values' count and the queue of commands. -/

namespace Sys2Proof.Machine

/-- The part of the state that the work of a run leaves alone. -/
def State.inert (s : State) :
    Configuration × List Host.Cell × Table 32 Descriptor × Option LoadContext × Half × Bool × Bool × Nat × List Instr :=
  (s.config, s.store, s.designs, s.load, s.enable, s.haltLine, s.stopLine, s.free, s.pending)

variable (s : State)

@[simp] theorem State.reply_inert (code : Byte) (st : Status) (p : Payload) : (s.reply code st p).inert = s.inert := rfl
@[simp] theorem State.refuse_inert (code : Byte) (st : Status) : (s.refuse code st).inert = s.inert := rfl
@[simp] theorem State.setHead_inert (h : Head) (r : HeadRecord) : (s.setHead h r).inert = s.inert := rfl
@[simp] theorem State.latchesOff_inert : s.latchesOff.inert = s.inert := rfl
@[simp] theorem State.trimmersOff_inert : s.trimmersOff.inert = s.inert := rfl
@[simp] theorem State.trimmersOn_inert (p : Table 12 Bool) : (s.trimmersOn p).inert = s.inert := rfl
@[simp] theorem State.setLatches_inert (k : RevKind) : (s.setLatches k).inert = s.inert := rfl
@[simp] theorem State.openCause_inert (k : Key) (n : Option Needle) (d : Detail) (p : Option Position) :
    (s.openCause k n d p).inert = s.inert := rfl
@[simp] theorem State.fetchAt_inert (p : Position) : (s.fetchAt p).inert = s.inert := rfl
@[simp] theorem State.join_inert (k : EntryKind) (p : Position) : (s.join k p).inert = s.inert := rfl
@[simp] theorem State.beginMove_inert (k : MoveKind) (d : Point) : (s.beginMove k d).inert = s.inert := rfl
@[simp] theorem State.bandCheck_inert : s.bandCheck.inert = s.inert := rfl
@[simp] theorem State.park_inert : s.park.inert = s.inert := rfl
@[simp] theorem State.commitSpeed_inert (e : Entry) (rest : List Entry) : (s.commitSpeed e rest).inert = s.inert := rfl
@[simp] theorem State.flush_inert : s.flush.inert = s.inert := rfl
@[simp] theorem State.enterStopped_inert (r : StopReason) : (s.enterStopped r).inert = s.inert := rfl
@[simp] theorem State.endWalk_inert : s.endWalk.inert = s.inert := rfl
@[simp] theorem State.arbitrate_inert : s.arbitrate.inert = s.inert := by simp [State.inert]
@[simp] theorem State.clearCause_inert (k : Key) : (s.clearCause k).inert = s.inert := by simp [State.inert]
@[simp] theorem State.acknowledge_inert (k : Key) : (s.acknowledge k).inert = s.inert := by simp [State.inert]
@[simp] theorem State.requestStop_inert (r : StopReason) : (s.requestStop r).inert = s.inert := by simp [State.inert]
@[simp] theorem State.latchesOffAtRest_inert : s.latchesOffAtRest.inert = s.inert := by simp [State.inert]
@[simp] theorem State.noHeadsTest_inert : s.noHeadsTest.inert = s.inert := by simp [State.inert]
@[simp] theorem State.breakNeedle_inert (h : Head) : (s.breakNeedle h).inert = s.inert := by simp [State.inert]
@[simp] theorem State.testThreadBreaks_inert : s.testThreadBreaks.inert = s.inert := by simp [State.inert]
@[simp] theorem State.rejoin_inert : s.rejoin.inert = s.inert := by simp [State.inert]

@[simp] theorem State.openThreadBreak_inert (h : Head) (c : BreakCause) (p : Option Position) :
    (s.openThreadBreak h c p).inert = s.inert := rfl

@[simp] theorem State.breakHead_inert (h : Head) (c : BreakCause) : (s.breakHead h c).inert = s.inert := by
  simp only [State.breakHead]; split <;> simp

@[simp] theorem State.looseHead_inert (h : Head) : (s.looseHead h).inert = s.inert := rfl

@[simp] theorem State.quietHead_inert (h : Head) : (s.quietHead h).inert = s.inert := by
  simp only [State.quietHead]; repeat' split
  all_goals simp

@[simp] theorem State.testBobbin_inert (h : Head) : (s.testBobbin h).inert = s.inert := by
  simp only [State.testBobbin]; repeat' split
  all_goals simp

@[simp] theorem State.testHead_inert (h : Head) : (s.testHead h).inert = s.inert := by
  simp only [State.testHead]; repeat' split
  all_goals simp

@[simp] theorem State.chargeHead_inert (k : RevKind) (h : Head) : (s.chargeHead k h).inert = s.inert := by
  simp only [State.chargeHead]; repeat' split
  all_goals simp

@[simp] theorem State.chargeHeads_inert (a : Active) : (s.chargeHeads a).inert = s.inert := by
  have h1 : (allHeads.foldl (fun t h => if a.pen.get h then State.chargeHead a.kind h t else t) s).inert = s.inert :=
    foldl_keeps State.inert _ (fun t h => by split <;> simp) allHeads s
  simp only [State.chargeHeads, State.noHeadsTest_inert]
  split
  · exact h1
  · exact h1

@[simp] theorem State.completeRecord_inert : s.completeRecord.inert = s.inert := by
  unfold State.completeRecord; repeat' split
  · rfl
  · exact State.chargeHeads_inert _ _
  · rfl

@[simp] theorem State.colourHead_inert (p : Option Position) (h : Head) : (s.colourHead p h).inert = s.inert := by
  simp only [State.colourHead]; repeat' split
  all_goals simp

@[simp] theorem State.colourHeads_inert (p : Option Position) : (s.colourHeads p).inert = s.inert := by
  simp only [State.colourHeads, State.testThreadBreaks_inert, State.noHeadsTest_inert]
  exact foldl_keeps State.inert _ (fun t h => by split <;> simp) allHeads s

@[simp] theorem State.placeHead_inert (p : Option Position) (h : Head) : (s.placeHead p h).inert = s.inert := by
  simp only [State.placeHead]; repeat' split
  all_goals simp

@[simp] theorem State.placeHeads_inert (p : Option Position) : (s.placeHeads p).inert = s.inert := by
  simp only [State.placeHeads, State.testThreadBreaks_inert, State.noHeadsTest_inert]
  exact foldl_keeps State.inert _ (fun t h => by split <;> simp) allHeads s

@[simp] theorem State.endHeads_inert : s.endHeads.inert = s.inert := by
  have h1 : (allHeads.foldl (fun t h => State.clearCause (.threadLoose h) t) s).inert = s.inert :=
    foldl_keeps State.inert _ (fun t h => by simp) allHeads s
  simp only [State.endHeads, State.testThreadBreaks_inert]
  rw [← h1]
  simp only [State.inert]

@[simp] theorem State.endRun_inert (r : RunResult) (x : StopReason) : (s.endRun r x).inert = s.inert := by
  simp only [State.endRun, State.bandCheck_inert, State.latchesOffAtRest_inert, State.endHeads_inert,
    State.clearCause_inert, State.flush_inert]
  rfl

@[simp] theorem State.enterHalted_inert (r : StopReason) : (s.enterHalted r).inert = s.inert := by
  simp only [State.enterHalted]; split <;> rfl

@[simp] theorem State.emergencyHalt_inert (r : StopReason) : (s.emergencyHalt r).inert = s.inert := by
  simp only [State.emergencyHalt, State.enterHalted_inert, State.latchesOffAtRest_inert, State.trimmersOff_inert]
  rfl

@[simp] theorem State.carriageFault_inert (f : CarriageFault) (n : Option Needle) :
    (s.carriageFault f n).inert = s.inert := by
  simp only [State.carriageFault]; split <;> rfl

@[simp] theorem State.clearUnmatched_inert (p : Position) : (s.clearUnmatched p).inert = s.inert := by
  simp only [State.clearUnmatched]; repeat' split
  all_goals simp

@[simp] theorem State.afterChange_inert : s.afterChange.inert = s.inert := by
  simp only [State.afterChange]; repeat' split
  all_goals rfl

@[simp] theorem State.changeDone_inert (n : Needle) : (s.changeDone n).inert = s.inert := by
  unfold State.changeDone
  split
  · rfl
  · rename_i e rest _
    simp only [State.afterChange_inert, State.clearUnmatched_inert]
    have h1 := State.colourHeads_inert
      (State.clearCause .carriageFault
        { s with run := { s.run with needle := some n, blockStart := s.run.ordinal, blockEnd := false } }) (some e.pos)
    rw [State.clearCause_inert] at h1
    simpa only [State.inert] using h1

@[simp] theorem State.selectDone_inert (n : Needle) : (s.selectDone n).inert = s.inert := by
  simp only [State.selectDone, State.clearCause_inert]; rfl

@[simp] theorem State.carriageDone_inert (n : Needle) : (s.carriageDone n).inert = s.inert := by
  simp only [State.carriageDone]
  split
  · rw [State.changeDone_inert]; rfl
  · rw [State.selectDone_inert]; rfl

@[simp] theorem State.abandonChange_inert : s.abandonChange.inert = s.inert := rfl

@[simp] theorem State.stepDone_inert (p n : Needle) : (s.stepDone p n).inert = s.inert := by
  simp only [State.stepDone]
  repeat' split
  · rfl
  · simp
  · rfl
  · rfl

@[simp] theorem State.codeChange_inert (c : Fin 16) : (s.codeChange c).inert = s.inert := by
  simp only [State.codeChange]
  repeat' split
  all_goals first | rfl | (simp only [State.stepDone_inert, State.carriageFault_inert]; rfl)

@[simp] theorem State.settleEnd_inert : s.settleEnd.inert = s.inert := by
  simp only [State.settleEnd]; repeat' split
  all_goals simp

@[simp] theorem State.stepTimeout_inert : s.stepTimeout.inert = s.inert := by
  simp only [State.stepTimeout]; split <;> simp

@[simp] theorem State.shaftMoved_inert : s.shaftMoved.inert = s.inert := by
  simp only [State.shaftMoved]; split <;> simp

@[simp] theorem State.beginChange_inert (e : Entry) (c : Half) : (s.beginChange e c).inert = s.inert := by
  simp only [State.beginChange]
  repeat' split
  all_goals first | rfl | (simp only [State.carriageDone_inert]; rfl)

@[simp] theorem State.take_inert (e : Entry) (rest : List Entry) : (s.take e rest).inert = s.inert := by
  simp only [State.take]
  split
  · rw [State.rejoin_inert]; rfl
  · rfl

@[simp] theorem State.inProgress_inert (k : RevKind) : (s.inProgress k).inert = s.inert := rfl

@[simp] theorem State.sewingMove_inert (e : Entry) : (s.sewingMove e).inert = s.inert := by
  simp only [State.sewingMove]; split <;> rfl

@[simp] theorem State.beginPoint_inert (e : Entry) (rest : List Entry) : (s.beginPoint e rest).inert = s.inert := by
  simp [State.beginPoint]

@[simp] theorem State.takeStationary_inert (e : Entry) (rest : List Entry) :
    (s.takeStationary e rest).inert = s.inert := by
  simp only [State.takeStationary, State.beginMove_inert]
  exact (State.latchesOff_inert _).trans (State.take_inert _ _ _)

@[simp] theorem State.penetrationRevolution_inert (k : RevKind) : (s.penetrationRevolution k).inert = s.inert := rfl

@[simp] theorem State.completeCutJump_inert : s.completeCutJump.inert = s.inert := by
  simp only [State.completeCutJump]; repeat' split
  all_goals rfl

@[simp] theorem State.blockEndStop_inert : s.blockEndStop.inert = s.inert := rfl

@[simp] theorem State.limitStop_inert (e : Entry) : (s.limitStop e).inert = s.inert := rfl

@[simp] theorem State.dealRecord_inert (e : Entry) (rest : List Entry) : (s.dealRecord e rest).inert = s.inert := by
  simp only [State.dealRecord]
  repeat' split
  all_goals first | (simp; done) | (rw [State.beginPoint_inert]; rfl) | (rw [State.takeStationary_inert]; rfl)

@[simp] theorem State.dealEntry_inert (e : Entry) (rest : List Entry) : (s.dealEntry e rest).inert = s.inert := by
  simp only [State.dealEntry]
  repeat' split
  all_goals first | (simp; done) | rfl

@[simp] theorem State.dealHead_inert : s.dealHead.inert = s.inert := by
  simp only [State.dealHead]; repeat' split
  all_goals simp

@[simp] theorem State.dealHeads_inert (fuel : Nat) : (State.dealHeads fuel s).inert = s.inert := by
  induction fuel generalizing s with
  | zero => rfl
  | succ n ih =>
    simp only [State.dealHeads]; repeat' split
    · rw [ih, State.dealHead_inert]
    · simp
    · rfl

@[simp] theorem State.takeQuickStop_inert : s.takeQuickStop.inert = s.inert := by
  simp only [State.takeQuickStop]; split <;> rfl

@[simp] theorem State.whenStill_inert : s.whenStill.inert = s.inert := by
  simp only [State.whenStill]; split <;> simp

@[simp] theorem State.settle_inert : s.settle.inert = s.inert := by simp [State.settle]

@[simp] theorem State.comeToRest_inert : s.comeToRest.inert = s.inert := by
  simp only [State.comeToRest, State.latchesOffAtRest_inert]; rfl

@[simp] theorem State.processCall_inert (p : Position) (d : Design) (n : Nat) : (s.processCall p d n).inert = s.inert := by
  simp only [State.processCall]
  split
  · rfl
  · simp only [State.clearRecordFault]; repeat' split
    all_goals first | rfl | (rw [State.clearCause_inert]; rfl)

@[simp] theorem State.feedRecords_inert (rs : List Record) : (State.feedRecords rs s).inert = s.inert := by
  induction rs generalizing s with
  | nil => rfl
  | cons r rs ih =>
    simp only [State.feedRecords]
    repeat' split
    all_goals first | (simp [ih]; done) | rfl

@[simp] theorem State.traceBack_inert (w : Walk) (p : Position) (d : Point) : (s.traceBack w p d).inert = s.inert := rfl

@[simp] theorem State.traceForward_inert (w : Walk) (p : Position) (d : Point) :
    (s.traceForward w p d).inert = s.inert := by
  simp only [State.traceForward, State.rejoin_inert]; rfl

@[simp] theorem State.walkTo_inert (w : Walk) (p : Position) : (s.walkTo w p).inert = s.inert := by
  simp only [State.walkTo]; split <;> rfl

@[simp] theorem State.walkOn_inert (fuel : Nat) (p : Option Position) : (State.walkOn fuel p s).inert = s.inert := by
  induction fuel generalizing p s with
  | zero => simp [State.walkOn]
  | succ n ih =>
    cases p with
    | none =>
      simp only [State.walkOn]
      repeat' split
      all_goals simp [ih]
    | some p =>
      simp only [State.walkOn]
      repeat' split
      all_goals first | (simp [ih]; done) | rfl

@[simp] theorem State.beginWalk_inert (d : WalkDir) (n : Nat) : (s.beginWalk d n).inert = s.inert := by
  simp only [State.beginWalk, State.walkOn_inert]; rfl

@[simp] theorem State.walkRead_inert (n : Nat) (ws : List Word) : (s.walkRead n ws).inert = s.inert := by
  simp only [State.walkRead]; repeat' split
  all_goals first | rfl | (rw [State.walkOn_inert]; rfl)

@[simp] theorem State.cutWalk_inert (r : StopReason) : (s.cutWalk r).inert = s.inert := by
  simp only [State.cutWalk]; split <;> rfl

@[simp] theorem State.traceComplete_inert : s.traceComplete.inert = s.inert := by
  simp only [State.traceComplete]; split <;> simp

@[simp] theorem State.stopRun_inert (r : StopReason) : (s.stopRun r).inert = s.inert := by
  simp only [State.stopRun]; repeat' split
  all_goals simp

@[simp] theorem State.brake_inert : s.brake.inert = s.inert := by
  simp only [State.brake]; repeat' split
  all_goals first | rfl | (rw [State.comeToRest_inert]; rfl)

@[simp] theorem State.quickStopRun_inert : s.quickStopRun.inert = s.inert := by
  simp only [State.quickStopRun, State.quickStopSewing, State.quickStopChange]
  repeat' split
  all_goals first | rfl | (simp; done) | (rw [State.brake_inert]; rfl)

@[simp] theorem State.moveReported_inert (k : MoveKind) : (s.moveReported k).inert = s.inert := by
  simp only [State.moveReported, State.stationaryComplete]
  repeat' split
  all_goals first | (simp; done) | (rw [State.whenStill_inert]; rfl)

@[simp] theorem State.windowOpen_inert : s.windowOpen.inert = s.inert := by
  simp only [State.windowOpen, State.clearStall, State.beginOrPark]
  repeat' split
  all_goals simp

@[simp] theorem State.windowClose_inert : s.windowClose.inert = s.inert := by
  simp only [State.windowClose, State.overrun, State.fireTrimmers]
  repeat' split
  all_goals first | (simp; done) | rfl

@[simp] theorem State.turnTo_inert (c : BitVec 10) (x : Bool) : (s.turnTo c x).inert = s.inert := by
  simp only [State.turnTo, State.bandCheck_inert]
  split
  · rw [State.shaftMoved_inert]; rfl
  · rfl

end Sys2Proof.Machine
end

