-- ==== Sys2Proof/Laws/Memory.lean ====
section
/-! SUPPORT. The store's bytes: every write keeps the canonical form, and a read after a write. -/

namespace Sys2Proof.Machine

theorem Memory.wfFrom_mono {lo lo' : Nat} {m : List Host.Cell} (h : lo' ≤ lo) (hw : Memory.wfFrom lo m = true) :
    Memory.wfFrom lo' m = true := by
  cases m with
  | nil => rfl
  | cons c m =>
    obtain ⟨a, v⟩ := c
    simp only [Memory.wfFrom, Bool.and_eq_true, decide_eq_true_eq] at hw ⊢
    exact ⟨⟨by omega, hw.1.2⟩, hw.2⟩

/-- A write keeps the canonical form from any bound that lies at or below its address. -/
theorem Memory.wfFrom_write {lo k : Nat} {m : List Host.Cell} (v : Byte) (hk : lo ≤ k)
    (hw : Memory.wfFrom lo m = true) : Memory.wfFrom lo (Memory.write m k v) = true := by
  induction m generalizing lo with
  | nil =>
    simp only [Memory.write]
    split
    · rfl
    · rename_i hv; simp [Memory.wfFrom, hk, hv]
  | cons c m ih =>
    obtain ⟨a, w⟩ := c
    simp only [Memory.wfFrom, Bool.and_eq_true, decide_eq_true_eq] at hw
    obtain ⟨⟨ha, hv⟩, hm⟩ := hw
    simp only [Memory.write]
    split
    · rename_i hlt
      split
      · simp [Memory.wfFrom, ha, hv, hm]
      · rename_i hv'
        simp [Memory.wfFrom, hk, hv', hv, hm, Nat.succ_le_of_lt hlt]
    · split
      · rename_i hka
        subst hka
        split
        · exact Memory.wfFrom_mono (by omega) hm
        · rename_i hv'
          simp [Memory.wfFrom, hk, hv', hm]
      · simp only [Memory.wfFrom, Bool.and_eq_true, decide_eq_true_eq]
        exact ⟨⟨ha, hv⟩, ih (by omega) hm⟩

theorem Memory.wf_write {m : List Host.Cell} (k : Nat) (v : Byte) (hw : Memory.wf m = true) :
    Memory.wf (Memory.write m k v) = true := Memory.wfFrom_write v (Nat.zero_le k) hw

theorem Memory.wf_writeBytes {m : List Host.Cell} (k : Nat) (vs : List Byte) (hw : Memory.wf m = true) :
    Memory.wf (Memory.writeBytes m k vs) = true := by
  induction vs generalizing m k with
  | nil => exact hw
  | cons v vs ih => exact ih (k + 1) (Memory.wf_write k v hw)

theorem Memory.wf_writePlace {m : List Host.Cell} (p : Nat) (w : Word) (hw : Memory.wf m = true) :
    Memory.wf (writePlace m p w) = true := Memory.wf_writeBytes _ _ hw

theorem Memory.wf_writeRegion {m : List Host.Cell} (base first : Nat) (ws : List Word) (hw : Memory.wf m = true) :
    Memory.wf (writeRegion m base first ws) = true := by
  induction ws generalizing m first with
  | nil => exact hw
  | cons w ws ih => exact ih (first + 1) (Memory.wf_writePlace _ w hw)

theorem Memory.wf_scramblePlaces {m : List Host.Cell} (free base first count : Nat) (hw : Memory.wf m = true) :
    Memory.wf (scramblePlaces m free base first count) = true := by
  induction count generalizing m free first with
  | zero => exact hw
  | succ n ih => exact ih (free + 4) (first + 1) (Memory.wf_writeBytes _ _ hw)

/-- An address below every entry reads as an unlisted one. -/
theorem Memory.read_below {lo k : Nat} {m : List Host.Cell} (hk : k < lo) (hw : Memory.wfFrom lo m = true) :
    Memory.read m k = Memory.unlisted := by
  induction m generalizing lo with
  | nil => rfl
  | cons c m ih =>
    obtain ⟨a, w⟩ := c
    simp only [Memory.wfFrom, Bool.and_eq_true, decide_eq_true_eq] at hw
    simp only [Memory.read]
    rw [if_neg (by omega)]
    exact ih (lo := a + 1) (by omega) hw.2

/-- A byte read after a byte written, from a canonical store. -/
theorem Memory.read_write_from {lo : Nat} {m : List Host.Cell} (k j : Nat) (v : Byte) (hw : Memory.wfFrom lo m = true) :
    Memory.read (Memory.write m k v) j = if j = k then v else Memory.read m j := by
  induction m generalizing lo with
  | nil =>
    simp only [Memory.write]
    split
    · rename_i hv
      split <;> simp [Memory.read, hv]
    · simp only [Memory.read]
      by_cases h : j = k
      · simp [h]
      · simp [h, Ne.symm h]
  | cons c m ih =>
    obtain ⟨a, w⟩ := c
    simp only [Memory.wfFrom, Bool.and_eq_true, decide_eq_true_eq] at hw
    obtain ⟨⟨ha, hv⟩, hm⟩ := hw
    simp only [Memory.write]
    split
    · rename_i hlt
      split
      · rename_i hv'
        by_cases h : j = k
        · subst h
          simp only [Memory.read, if_true]
          rw [if_neg (by omega), Memory.read_below (lo := a + 1) (by omega) hm, hv']
        · simp [h]
      · by_cases h : j = k
        · simp [Memory.read, h]
        · simp [Memory.read, h, Ne.symm h]
    · split
      · rename_i hka
        subst hka
        split
        · rename_i hv'
          by_cases h : j = k
          · subst h
            simp only [if_true]
            rw [Memory.read_below (lo := j + 1) (by omega) hm, hv']
          · simp [Memory.read, h, Ne.symm h]
        · by_cases h : j = k
          · simp [Memory.read, h]
          · simp [Memory.read, h, Ne.symm h]
      · rename_i hne
        simp only [Memory.read]
        rw [ih hm]
        by_cases h : a = j
        · subst h
          simp only [if_true]
          rw [if_neg (Ne.symm hne)]
        · simp [h]

theorem Memory.read_write {m : List Host.Cell} (k j : Nat) (v : Byte) (hw : Memory.wf m = true) :
    Memory.read (Memory.write m k v) j = if j = k then v else Memory.read m j := Memory.read_write_from k j v hw

/-- A byte read after consecutive bytes written. -/
theorem Memory.read_writeBytes {m : List Host.Cell} (k j : Nat) (vs : List Byte) (hw : Memory.wf m = true) :
    Memory.read (Memory.writeBytes m k vs) j =
      if h : k ≤ j ∧ j < k + vs.length then vs[j - k]'(by omega) else Memory.read m j := by
  induction vs generalizing m k with
  | nil => simp [Memory.writeBytes]
  | cons v vs ih =>
    simp only [Memory.writeBytes]
    rw [ih (k + 1) (Memory.wf_write k v hw)]
    by_cases h1 : k + 1 ≤ j ∧ j < k + 1 + vs.length
    · have h2 : k ≤ j ∧ j < k + (v :: vs).length := by simp only [List.length_cons]; omega
      rw [dif_pos h1, dif_pos h2]
      have : j - k = (j - (k + 1)) + 1 := by omega
      simp [this]
    · rw [dif_neg h1, Memory.read_write k j v hw]
      by_cases h3 : j = k
      · subst h3
        rw [if_pos rfl, dif_pos (by simp)]
        simp
      · rw [if_neg h3, dif_neg (by simp only [List.length_cons]; omega)]

/-- Record `i` of a region lies at place 64 · base + i of the store (R11). -/
theorem placeOf_eq (base i : Nat) : placeOf base i = 64 * base + i := by
  simp only [placeOf]; omega

theorem wordBytes_length (w : Word) : (wordBytes w).length = 4 := rfl

end Sys2Proof.Machine
end

