-- ==== Sys2Proof/Laws/Requests.lean ====
section
/-! SUPPORT. What the operations behind every request and event can do, said once: a request that is taken at
once, its checks, a grant, the causes tested, and the head of the queue while no run sews. -/

namespace Sys2Proof.Machine

/-! ## Requests -/

/-- A request that comes while the link interface is ready and no frame waits is done at once. -/
theorem State.takeFrame_served (c : Instr) (act : State → State) (s : State) (h : s.served) :
    s.takeFrame c act = act s := by
  obtain ⟨h1, h2⟩ := h
  simp [State.takeFrame, h1, h2]

/-- The check that decides a refusal is the first that does not pass. -/
theorem firstRefusal_eq_some {checks : List (Bool × Status)} {st : Status} :
    firstRefusal checks = some st ↔
      ∃ before after, checks = before ++ (false, st) :: after ∧ ∀ x ∈ before, x.1 = true := by
  induction checks with
  | nil => simp [firstRefusal]
  | cons c rest ih =>
    obtain ⟨b, x⟩ := c
    cases b with
    | false =>
      constructor
      · intro h; simp [firstRefusal] at h; subst h; exact ⟨[], rest, rfl, by simp⟩
      · rintro ⟨before, after, h, hb⟩
        cases before with
        | nil => simp at h; simp [firstRefusal, h.1]
        | cons y ys => simp at h; have := hb y (by simp); rw [← h.1] at this; simp at this
    | true =>
      simp only [firstRefusal, ih]
      constructor
      · rintro ⟨before, after, h, hb⟩
        exact ⟨(true, x) :: before, after, by simp [h], by
          intro y hy; rcases List.mem_cons.1 hy with rfl | hy
          · rfl
          · exact hb y hy⟩
      · rintro ⟨before, after, h, hb⟩
        cases before with
        | nil => simp at h
        | cons y ys => simp at h; exact ⟨ys, after, h.2, fun z hz => hb z (by simp [hz])⟩

/-- No check refuses exactly when all pass. -/
theorem firstRefusal_eq_none {checks : List (Bool × Status)} :
    firstRefusal checks = none ↔ ∀ x ∈ checks, x.1 = true := by
  induction checks with
  | nil => simp [firstRefusal]
  | cons c rest ih => obtain ⟨b, x⟩ := c; cases b <;> simp [firstRefusal, ih]

/-- A request refused by its checks changes nothing but the link. -/
theorem State.checked_refused (code : Byte) (checks : List (Bool × Status)) (act : State → State) (s : State)
    (st : Status) (h : firstRefusal checks = some st) : s.checked code checks act = s.reply code st .empty := by
  simp [State.checked, h, State.refuse]

/-- A request whose checks all pass is done. -/
theorem State.checked_passed (code : Byte) (checks : List (Bool × Status)) (act : State → State) (s : State)
    (h : firstRefusal checks = none) : s.checked code checks act = act s := by
  simp [State.checked, h]

/-! ## The grant -/

/-- A grant decision changes the burst in flight and the last claimant alone. -/
theorem State.arbitrate_eq (s : State) :
    s.arbitrate = { s with burst := s.arbitrate.burst, lastGranted := s.arbitrate.lastGranted } := by
  unfold State.arbitrate
  repeat' split
  all_goals rfl

/-- A command that ends with the grant decision leaves what that decision makes. -/
theorem State.arbitrate_upToGrant (s : State) : s.upToGrant s.arbitrate := rfl

/-- What the grant decision makes of `s` is granted from any state that has the burst and the last claimant
of `s`. -/
theorem State.arbitrate_granted (s0 s : State) (h : s.lastGranted = s0.lastGranted) :
    State.granted s.burst s0 s.arbitrate := by
  have e : ({ s.arbitrate with burst := s.burst, lastGranted := s0.lastGranted } : State) = s := by
    rw [State.arbitrate_eq s, ← h]
  unfold State.granted
  rw [e]

/-- A feed that becomes IDLE leaves the burst in flight as `State.idledBurst` says. -/
theorem State.feedIdle_burst (s : State) : s.feedIdle.burst = s.idledBurst := rfl

/-! ## Causes -/

/-- Clearing a cause changes the condition table and its count alone. -/
theorem State.clearCause_eq (k : Key) (s : State) :
    s.clearCause k = { s with conditions := (s.clearCause k).conditions, changes := (s.clearCause k).changes } := by
  unfold State.clearCause
  split <;> rfl

/-- Folding an operation that changes the condition table alone changes the condition table alone. -/
theorem foldl_conditions {α : Type} (f : State → α → State) (l : List α)
    (h : ∀ s a, f s a = { s with conditions := (f s a).conditions, changes := (f s a).changes }) (s : State) :
    l.foldl f s = { s with conditions := (l.foldl f s).conditions, changes := (l.foldl f s).changes } := by
  induction l generalizing s with
  | nil => rfl
  | cons a l ih =>
    rw [List.foldl_cons, ih (f s a)]
    rw [h s a]

/-- The THREAD_BREAK tests change the condition table and its count alone. -/
theorem State.testThreadBreaks_eq (s : State) :
    s.testThreadBreaks =
      { s with conditions := s.testThreadBreaks.conditions, changes := s.testThreadBreaks.changes } := by
  unfold State.testThreadBreaks
  apply foldl_conditions
  intro s h
  split
  · rfl
  · exact State.clearCause_eq _ s

/-! ## The head of the queue -/

/-- With no run sewing and no record begun, nothing follows from a shaft at rest. -/
theorem State.whenStill_of_not_sewing (s : State) (h : s.sewing = false) (ha : s.shaft.active = none) :
    s.whenStill = s := by
  have h1 : s.completeCutJump = s := by simp [State.completeCutJump, ha]
  have h2 : s.headReadable = false := by simp [State.headReadable, h]
  have h3 : s.takeQuickStop = s := by simp [State.takeQuickStop, h]
  unfold State.whenStill
  simp only [h1]
  split
  · exact h3
  · simp [State.dealHeads, h2]

/-- With no run sewing and no record begun, an event is followed by a grant decision alone. -/
theorem State.settle_of_not_sewing (s : State) (h : s.sewing = false) (ha : s.shaft.active = none) :
    s.settle = s.arbitrate := by
  unfold State.settle
  rw [State.whenStill_of_not_sewing s h ha]

/-- A request for a controlled stop changes the run record and the stop request alone. -/
theorem State.requestStop_eq (reason : StopReason) (s : State) :
    s.requestStop reason = { s with
      shaft := { s.shaft with stopReq := (s.requestStop reason).shaft.stopReq }
      run := { s.run with
        state := (s.requestStop reason).run.state, pendingStop := (s.requestStop reason).run.pendingStop
        reason := (s.requestStop reason).run.reason } } := by
  unfold State.requestStop
  repeat' split
  all_goals rfl

end Sys2Proof.Machine
end

