-- ==== Sys2Proof/Laws/Tables.lean ====
section
/-! SUPPORT. What reading a fixed-length table gives after each way of making one. -/

namespace Sys2Proof.Table

variable {n : Nat} {α β : Type}

@[simp] theorem get_ofFn (f : Fin n → α) (i : Fin n) : (Table.ofFn f).get i = f i := by simp [Table.get, Table.ofFn]

@[simp] theorem get_fill (a : α) (i : Fin n) : (Table.fill a).get i = a := by simp [Table.get, Table.fill]

@[simp] theorem get_map (f : α → β) (t : Table n α) (i : Fin n) : (t.map f).get i = f (t.get i) := by
  simp [Table.get, Table.map]

@[simp] theorem get_mapIdx (f : Fin n → α → β) (t : Table n α) (i : Fin n) : (t.mapIdx f).get i = f i (t.get i) := by
  simp [Table.mapIdx]

@[simp] theorem get_set_self (t : Table n α) (i : Fin n) (a : α) : (t.set i a).get i = a := by
  simp [Table.get, Table.set]

theorem get_set_ne (t : Table n α) {i j : Fin n} (a : α) (h : i ≠ j) : (t.set i a).get j = t.get j := by
  have : i.val ≠ j.val := fun e => h (Fin.ext e)
  simp [Table.get, Table.set, this]

/-- One entry read after a write, in one equation. -/
theorem get_set (t : Table n α) (i j : Fin n) (a : α) : (t.set i a).get j = if i = j then a else t.get j := by
  split
  · rename_i h; subst h; simp
  · rename_i h; exact get_set_ne t a h

/-- Two tables with the same entries are equal. -/
theorem ext_get {t u : Table n α} (h : ∀ i, t.get i = u.get i) : t = u := by
  obtain ⟨ts, ht⟩ := t
  obtain ⟨us, hu⟩ := u
  congr
  apply List.ext_getElem (by rw [ht, hu])
  intro i h1 h2
  exact h ⟨i, by rw [← ht]; exact h1⟩

end Sys2Proof.Table
end

