-- ==== Sys2Proof/Tests/Slice0.lean ====
section
/-! SUPPORT. Tests. Every expected value comes from the manual: its worked examples and tables, or a hand
computation from its rules. The witnesses at the end show, for each statement with hypotheses, states and
operands that meet them. -/

namespace Sys2Proof.Tests

set_option Elab.async false

open Sys2Proof Sys2Proof.Machine

/-! ## Helpers -/

/-- A request or an event that ends in a next state: what `f` says of that state. -/
def after (i : Instr) (s : State) (f : State → Bool) : Bool :=
  match exec i s with
  | .next t => f t
  | .fault _ => false
  | .refused _ => false

/-- The statuses of the replies in the transmit FIFO, oldest first. -/
def statuses (s : State) : List Status := s.link.tx.map (·.status)

/-- A request that is answered with this one status, and changes nothing but the link. -/
def answers (i : Instr) (s : State) (st : Status) : Bool :=
  after i s fun t => decide (statuses t = [st] ∧ t = { s with link := t.link })

/-- An entry at record `index` of design 0. -/
def entryOf (kind : EntryKind) (index : Nat) : Entry :=
  { kind := kind, pos := .main 0 index, steps := 40, time := 10000, nMax := 1200, stationary := false,
    planned := ⟨0, 0⟩, limit := false }

/-- At TDC with the frame KNOWN and the carriage at needle 1. -/
def ready : State :=
  { State.reset with
    frame := { State.reset.frame with state := .known ⟨400, 500⟩ }
    carriage := { State.reset.carriage with code := 1, last := some 0 }
    run := { State.reset.run with needle := some 0 } }

/-! ## Well-formed commands (R188, R192) -/

theorem test_wellFormed_payload_199 (p : List Byte) (h : p.length = 199) : (Instr.loadData p).wellFormed = true := by
  simp [Instr.wellFormed, requestBody, payloadFits, h]
theorem test_wellFormed_payload_200_refused (p : List Byte) (h : p.length = 200) :
    (Instr.loadData p).wellFormed = false := by
  simp [Instr.wellFormed, requestBody, payloadFits, h]
theorem test_wellFormed_known_code_refused : (Instr.unknownCommand 0x27 []).wellFormed = false := by decide

/-! ## Records (Table 1-1, the words of section 1.7) -/

theorem test_words_of_motif :
    [0x00001400, 0x0000000F, 0x0000FB00, 0x60000000].map decodeRecord =
      [some (.stitch 20 0), some (.stitch 0 15), some (.stitch (-5) 0), some .endRec] := by decide

theorem test_words_of_main :
    [0x30000102, 0x00006432, 0x40030002, 0x10ED4000, 0x30000204, 0x000000B0, 0x60000000].map decodeRecord =
      [some (.colour 0x0102), some (.stitch 100 50), some (.call 3 3), some (.jump (-300) 0),
       some (.colour 0x0204), some (.stitch 0 (-80)), some .endRec] := by decide

/-- TRIM and PAUSE by their kinds; a spare bit, kind 7 and a field at its lowest code are not legal (R3). -/
theorem test_words_legal_and_not :
    [0x20000000, 0x50000000, 0x20000001, 0x70000000, 0x00008000, 0x10800000].map decodeRecord =
      [some .trim, some .pause, none, none, none, none] := by decide

/-! ## The load tally (sections 1.7, 1.8) -/

def emptyBody (base length : Nat) (attrs : Attributes) : DesignBody :=
  { attrs := attrs, base := base, length := length, extent := ⟨0, 0, 0, 0⟩, complete := true, colourCount := 0,
    colours := [], truncated := false, sum := 0 }

def motifWords : List Word := [0x00001400, 0x0000000F, 0x0000FB00, 0x60000000]
def mainWords : List Word :=
  [0x30000102, 0x00006432, 0x40030002, 0x10ED4000, 0x30000204, 0x000000B0, 0x60000000]

/-- Design 3 READY as section 1.7 leaves it. -/
def withMotif : Table 32 Descriptor :=
  (Table.fill Descriptor.empty).set 3
    (.ready { emptyBody 40 4 ⟨false, true, false⟩ with extent := ⟨0, 20, 0, 15⟩, sum := 28431 } (some ⟨15, 15⟩))

theorem test_tally_of_motif :
    Tally.acceptAll (.fill .empty) motifWords { body := emptyBody 40 4 ⟨false, true, false⟩, position := some ⟨0, 0⟩ } =
      { body := { emptyBody 40 4 ⟨false, true, false⟩ with extent := ⟨0, 20, 0, 15⟩, sum := 28431 }
        position := some ⟨15, 15⟩ } := by decide

theorem test_tally_of_main :
    Tally.acceptAll withMotif mainWords { body := emptyBody 41 7 ⟨true, false, false⟩, position := some ⟨0, 0⟩ } =
      { body := { emptyBody 41 7 ⟨true, false, false⟩ with
                  extent := ⟨-155, 150, 0, 95⟩, colourCount := 2, colours := [0x0102, 0x0204], sum := 47322 }
        position := some ⟨-155, 15⟩ } := by decide

/-- Design 9 of section 1.8: a CALL to an EMPTY motif makes the extent PARTIAL. -/
theorem test_tally_partial :
    let t := Tally.acceptAll (.fill .empty)
      (([.stitch 30 30, .call 12 1, .stitch 10 0, .colour 7, .endRec] : List Record).map encodeRecord)
      { body := emptyBody 50 5 ⟨true, true, false⟩, position := some ⟨0, 0⟩ }
    (t.position, t.body.complete, t.body.extent, t.body.colours) = (none, false, ⟨0, 30, 0, 30⟩, [7]) := by decide

/-! ## Frames (section 11.3's example) -/

theorem test_frame_set_speed : frameOf [0x27, 0x20, 0x03] = [0x7E, 0x03, 0x27, 0x20, 0x03, 0xB3] := by decide
theorem test_frame_status : frameOf [0x02] = [0x7E, 0x01, 0x02, 0xFD] := by decide
theorem test_reply_set_speed :
    (Reply.mk 0x27 .ok (.speed 800)).bytes = [0x7E, 0x04, 0x27, 0x00, 0x20, 0x03, 0xB2] := by decide
theorem test_reply_bad_frame : (Reply.mk 0x27 .badFrame .empty).bytes = [0x7E, 0x02, 0x27, 0x04, 0xD3] := by decide

/-- The bytes of SET_SPEED(800)'s frame arrive, and the next idle step takes the frame (R190, R192). -/
theorem test_bytes_to_set_speed :
    let l := (frameOf [0x27, 0x20, 0x03]).foldl (fun l b => l.byteArrives b) ready.link
    step { ready with link := l } = .next
      { ready with
        shaft := { ready.shaft with hostCap := 800 }
        link := { ready.link with tx := [⟨0x27, .ok, .speed 800⟩] } } := by rfl

/-- The damaged frame of the example is answered BAD_FRAME. -/
theorem test_damaged_frame :
    let l := ([0x7E, 0x03, 0x27, 0x20, 0x13, 0xB3] : List Byte).foldl (fun l b => l.byteArrives b) ready.link
    l.rx.map RxFrame.command = [.badFrame (.badCheck 0x27)] := by decide

theorem test_set_speed_clamps :
    after (.setSpeed [0xD0, 0x07]) ready (fun t => decide (t.shaft.hostCap = 1200)) = true := by decide

/-! ## The loader (section 2.8) and the arbiter (section 3.8) -/

/-- Step 1 of section 2.8: block 41 is design 7's. -/
def withMain : State :=
  { ready with
    designs := withMotif.set 7 (.ready { emptyBody 41 7 ⟨true, false, false⟩ with extent := ⟨-155, 150, 0, 95⟩ }
      (some ⟨-155, 15⟩)) }

theorem test_load_open_overlap : answers (.loadOpen [20, 41, 0, 70, 0, 0, 0, 1]) withMain .overlap = true := by decide

/-- Step 2, and a load that is refused while one is open. -/
theorem test_load_open :
    after (.loadOpen [20, 100, 0, 70, 0, 0, 0, 1]) withMain (fun t =>
      decide (t.load = some { design := 20, position := some ⟨0, 0⟩, buffer0 := none, buffer1 := none, olderIs1 := false }
        ∧ statuses t = [.ok]) && answers (.loadOpen [21, 200, 0, 70, 0, 0, 0, 1]) { t with link := ready.link } .loadActive)
      = true := by decide

/-- The motif's four records as one chunk: cursor, staging, and the loader granted at once. -/
theorem test_load_data :
    after (.loadOpen [3, 40, 0, 4, 0, 0, 0, 2]) ready (fun s =>
      after (.loadData ([3, 0, 0, 0, 0, 4] ++ motifWords.flatMap wordBytes)) s fun t =>
        decide ((t.designs.get 3).body?.map (·.sum) = some 28431 ∧ t.burst.map (·.records) = some motifWords ∧
          statuses t = [.ok, .ok])) = true := by decide

/-- Its burst completes, and LOAD_CLOSE with the host's sum makes the design READY. -/
theorem test_load_close :
    after (.loadOpen [3, 40, 0, 4, 0, 0, 0, 2]) ready (fun s =>
      after (.loadData ([3, 0, 0, 0, 0, 4] ++ motifWords.flatMap wordBytes)) s fun s =>
        after .burstComplete s fun s => after (.loadClose [3, 0x0F, 0x6F]) s fun t =>
          decide (t.designs.get 3 = withMotif.get 3 ∧ t.load = none ∧ readPlace t.store 2563 = 0x60000000 ∧
            readPlace t.store 2561 = 0x0000000F ∧ statuses t = [.ok, .ok, .ok])) = true := by decide

/-- All three claims wait, with the queue at `n` entries. -/
def contended (mode : ArbiterMode) (last : Claimant) (n : Nat) : State :=
  { withMain with
    config := { Configuration.defaults with arbiterMode := mode }, lastGranted := last
    run := { ready.run with state := .running }
    feed := { activity := .filling, blocked := false, fetch := .main 7 0 }
    queue := List.replicate n (entryOf .trim 0)
    load := some { design := 20, position := none, buffer1 := none, olderIs1 := false
                   buffer0 := some { first := 0, records := motifWords, written := 0 } }
    link := { ready.link with readBack := some { design := 3, index := 0, count := 4, got := [] } } }

theorem test_arbiter_not_urgent :
    [(contended .feedFirst .loader 6).winner, (contended .loaderFirst .loader 6).winner,
     (contended .rotate .feed 6).winner, (contended .rotate .loader 6).winner, (contended .rotate .readback 6).winner] =
      [some .feed, some .loader, some .loader, some .readback, some .feed] := by decide

theorem test_arbiter_urgent :
    [(contended .feedFirst .loader 3).winner, (contended .loaderFirst .loader 3).winner,
     (contended .rotate .feed 3).winner, (contended .rotate .loader 3).winner, (contended .rotate .readback 3).winner] =
      [some .feed, some .feed, some .feed, some .feed, some .feed] := by decide

/-! ## START and the feed -/

/-- The store with designs 3 and 7 of section 1.7. -/
def sewn : State :=
  { withMain with store := writeRegion (writeRegion [] 40 0 motifWords) 41 0 mainWords }

/-- The field test of chapter 9: x 200 is refused and x 400 accepted. -/
theorem test_start_field :
    answers (.start [7]) { sewn with frame := { sewn.frame with state := .known ⟨200, 500⟩ } } .field = true ∧
    after (.start [7]) sewn (fun t => decide (t.run.state = .running ∧ t.burst.map (·.first) = some 0 ∧
      (t.heads.get 0).state = .sewing ∧ (t.heads.get 0).grace = 2 ∧ statuses t = [.ok])) = true := by decide +kernel

/-- The first burst of design 7 ends at its CALL: the motif is entered, and the COLOUR record, which selects
no needle, stops the run with NEEDLE_UNMATCHED (R62, R122). -/
theorem test_first_burst :
    after (.start [7]) sewn (fun s => after .burstComplete s fun t =>
      decide (t.run.visited = [7, 3] ∧ t.run.state = .stopped ∧ t.run.reason = .needleUnmatched ∧
        t.run.resume = some (.main 7 0))) = true := by decide +kernel

/-! ## Annotation, moves and the plan (sections 5.5, 5.7, 6.3) -/

def annotating : State :=
  { ready with
    run := { ready.run with state := .running }
    frame := { ready.frame with state := .known ⟨4000, 4000⟩ } }

/-- The seven entries of section 5.5's example, annotated one behind the other. -/
def annotated : List Entry :=
  (([.stitch 25 (-40), .stitch 10 10, .stitch 120 10, .jump 600 0, .trim, .colour 1, .jump 1800 0] :
      List EntryKind).foldl
    (fun s k => { s with queue := s.queue ++ [s.annotate k (.main 0 0)] }) annotating).queue

theorem test_annotation :
    annotated.map (fun e => (e.steps, e.time, e.nMax, e.planned, e.stationary, e.limit)) =
      [(80, 14000, 2276, ⟨4050, 3920⟩, false, false), (20, 8000, 3984, ⟨4070, 3940⟩, false, false),
       (240, 30000, 1062, ⟨4310, 3960⟩, false, false), (1200, 126000, 252, ⟨5510, 3960⟩, false, false),
       (0, 0, 1200, ⟨5510, 3960⟩, false, false), (0, 0, 1200, ⟨5510, 3960⟩, false, false),
       (3600, 366000, 87, ⟨9110, 3960⟩, true, true)] := by decide +kernel

/-- V0 of section 6.3's plan. -/
theorem test_speed_plan :
    let s : State :=
      { annotating with
        shaft := { annotating.shaft with vPrev := 850 }
        needles := annotating.needles.set 0 { thread := some ⟨1, 0, 1000⟩, perHead := .fill .ready } }
    (annotated.take 6).head?.map (fun e => s.planSpeed e ((annotated.take 6).drop 1)) = some 702 := by decide +kernel

/-- The first and the last crossing of section 6.4's controlled stop. -/
theorem test_controlled_stop_speeds :
    let s : Nat → State := fun v =>
      { annotating with shaft := { annotating.shaft with vPrev := v, stopReq := .controlled } }
    [1000, 850, 700, 550, 400, 250].map (fun v => (s v).planSpeed (entryOf (.stitch 20 0) 0) []) =
      [850, 700, 550, 400, 250, 120] := by decide +kernel

/-- The halt in mid-stitch of section 5.7. -/
theorem test_halt_in_mid_stitch :
    let m : Move := { kind := .sewing, start := ⟨4000, 4000⟩, disp := ⟨50, -80⟩, time := 14000, issued := 60 }
    let s : State := { annotating with frame := { annotating.frame with state := .moving m } }
    after .haltLineActive s (fun t => decide (t.frame.state = .known ⟨4037, 3940⟩ ∧ t.frame.residual = some ⟨13, -20⟩ ∧
      t.run.state = .halted ∧ t.run.reason = .haltLine)) = true ∧
    (minorPulseAt 80 50 37, minorPulseAt 80 50 38) = (60, 61) := by decide +kernel

/-! ## A quick stop and recovery (section 6.4) -/

def turning : State :=
  { annotating with
    feed := { activity := .filling, blocked := true, fetch := .main 0 2 }
    queue := [entryOf (.stitch 20 0) 1]
    shaft := { annotating.shaft with
               state := .turning, command := 400, vPrev := 400, atRest := false, angle := 820, enable := true
               active := some { kind := .stitch 20 0, pen := .fill true, awaiting := false } }
    run := { annotating.run with state := .running, chain := some (.main 0 0), ordinal := 1, frontier := 1 } }

/-- The states of the shaft and the run after a list of events, from `turning`. -/
def runs : List Instr → State → Option State
  | [], s => some s
  | i :: is, s =>
    match exec i s with
    | .next t => runs is t
    | .fault _ => none
    | .refused _ => none

theorem test_quick_stop :
    (runs [.quickStop [], .encoderCountChange 1012, .shaftAtRest, .resume []] turning).map (fun t =>
      ((t.shaft.state, t.shaft.command, t.shaft.pendingFlag), (t.run.state, t.run.reason, statuses t))) =
      some ((.still, 0, true), (.stopped, .quickStop, [.ok, .notAtTdc])) := by decide +kernel

theorem test_recovery :
    (runs [.quickStop [], .encoderCountChange 1012, .shaftAtRest, .shaftToTdc [], .windowCloseCrossing] turning).map
      (fun t => (t.shaft.state, t.shaft.command, t.shaft.pendingFlag)) = some (.positioning, 120, true) ∧
    (runs [.quickStop [], .encoderCountChange 1012, .shaftAtRest, .shaftToTdc [], .windowCloseCrossing,
        .windowOpenCrossing, .encoderCountChange 1008, .encoderCountChange 1014, .shaftAtRest] turning).map
      (fun t => (t.shaft.state, t.shaft.command, t.shaft.pendingFlag, t.atTdc, (t.heads.get 0).meter)) =
        some (.still, 0, false, true, 32) := by decide +kernel

/-- ABORT while SHAFT_TO_TDC is about to turn a shaft that rests in the band leaves it STILL there (R92, R110, R166). -/
theorem test_abort_at_tdc :
    (runs [.quickStop [], .encoderCountChange 1012, .shaftAtRest, .shaftToTdc [], .abort []] turning).map
      (fun t => (t.shaft.state, t.shaft.command, t.atTdc, t.run.state)) = 
        some (.still, 0, true, .idle) := by decide +kernel

/-! ## Needles and the carriage (chapter 7) -/

/-- The table of section 7.2's example, with needle `n` current. -/
def matching (n : Needle) : State :=
  let entry : Half → Half → NeedleEntry := fun c m => { thread := some ⟨c, m, 1200⟩, perHead := .fill .ready }
  { ready with
    config := { Configuration.defaults with needlesInstalled := 7 }
    run := { ready.run with needle := some n }
    needles := ((((((ready.needles.set 0 (entry 0x0102 0)).set 1 (entry 0x0100 0x00FF)).set 2 (entry 0x0204 0)).set 3
      (entry 0x0204 0)).set 5 (entry 0x0300 0x000F)).set 6 (entry 0x0310 0x00F0)) }

theorem test_match_order :
    [0x0102, 0x0105, 0x0204, 0x0300, 0x0310, 0x0301, 0x0330, 0x0500].map (matching 0).select =
      [.needle 0, .needle 1, .unmatched .ambiguous, .needle 5, .needle 6, .needle 5, .needle 6, .unmatched .none] ∧
    (matching 2).select 0x0204 = .needle 2 := by decide +kernel

/-- SELECT_NEEDLE(3) from needle 1: two steps up, the settle, and the current needle (R121, R129). -/
theorem test_select_needle :
    (runs [.selectNeedle [3], .carriageCodeChange 0, .carriageCodeChange 2, .carriageCodeChange 0] ready).map
      (fun t => (t.carriage.state, t.carriageDrive)) = some (.stepping 2 (some 2), (true, false)) ∧
    (runs [.selectNeedle [3], .carriageCodeChange 0, .carriageCodeChange 2, .carriageCodeChange 0,
        .carriageCodeChange 3, .carriageSettleEnd] ready).map (fun t => (t.carriage.state, t.run.needle)) =
      some (.idle, some 2) := by decide +kernel

/-- A step that takes too long is a carriage fault with the target and no position (R121, R128). -/
theorem test_step_timeout :
    (runs [.selectNeedle [3], .carriageStepTimeout] ready).map (fun t => t.conditions) =
      some [{ key := .carriageFault, state := .opened, repeats := 0, needle := some 2, detail := .carriage .timeout,
              ordinal := 0, position := none }] := by decide +kernel

/-- ASSIGN clamps its ceiling and CLEAR_NEEDLE drops the entry (R114, R115). -/
theorem test_assign_and_clear :
    (runs [.assign [2, 0x02, 0x01, 0xFF, 0x00, 0x10, 0x00]] ready).map (fun t => (t.needles.get 1).thread) =
      some (some ⟨0x0102, 0x00FF, 120⟩) ∧
    (runs [.assign [2, 0x02, 0x01, 0xFF, 0x00, 0x10, 0x00], .clearNeedle [2]] ready).map
      (fun t => (t.needles.get 1).thread) = some none := by decide +kernel

/-- SPOOL of EMPTY is reported; SPOOL of BROKEN is not an argument (R116). -/
theorem test_spool :
    (runs [.spool [4, 6, 1], .spool [4, 6, 2]] ready).map (fun t => (t.needleState 5 3, statuses t)) =
      some (.empty, [.ok, .badArgument]) := by decide +kernel

/-! ## The heads (chapter 8) -/

/-- The balances of heads 3, 5 and 8 in section 8.3's example. -/
theorem test_three_balances :
    let run : List Nat → Int := fun l => l.foldl (fun b k => chargeBalance (pulseBalance b (5 * k)) 42) 0
    [[9], [9, 8], [9, 8, 9], [9, 8, 9, 8], [9, 8, 9, 8, 9]].map run = [-3, -1, -4, -2, -5] ∧
    [[8, 9, 8, 3], [8, 9, 8, 3, 0], [8, 9, 8, 3, 0, 0], [8, 9, 8, 3, 0, 0, 0]].map run = [28, 70, 112, 154] ∧
    [[14], [14, 14, 14, 14, 14, 14]].map run = [-28, -168] := by decide +kernel

/-- Head 5 at the completion of ordinal 7: break UPPER, mend ordinal 4 (section 8.3). -/
theorem test_break_of_head_5 :
    let s : State :=
      { turning with
        run := { turning.run with ordinal := 7, frontier := 7 }
        heads := turning.heads.set 4 { HeadRecord.cold with state := .sewing, balance := 112, meter := 252 } }
    let t := s.chargeHead (.stitch 30 0) 4
    ((t.heads.get 4).state, (t.heads.get 4).meter, t.needleState 0 4, t.run.state, t.run.reason) =
      (.broken 4, 294, .broken, .stopping, .breakStop) := by decide +kernel

/-- Head 8 at the completion of ordinal 6: loose, with its quiet count set (section 8.3). -/
theorem test_loose_of_head_8 :
    let s : State :=
      { turning with heads := turning.heads.set 7 { HeadRecord.cold with state := .sewing, balance := -210 } }
    let t := s.chargeHead (.stitch 30 0) 7
    ((t.heads.get 7).balance, (t.heads.get 7).looseQuiet, t.causeOpen (.threadLoose 7), t.run.state) =
      (0, some 64, true, .running) := by decide +kernel

/-- The bobbin's warning at the 16,191st stitch of 42 su, and the break at the 19,048th (section 8.3). -/
theorem test_bobbin :
    let s : Nat → State := fun m =>
      { turning with heads := turning.heads.set 0 { HeadRecord.cold with state := .sewing, meter := m } }
    ((s 679938).chargeHead (.stitch 30 0) 0).causeOpen (.bobbinLow 0) = false ∧
    ((s 679980).chargeHead (.stitch 30 0) 0).causeOpen (.bobbinLow 0) = true ∧
    ((s 799932).chargeHead (.stitch 30 0) 0).run.state = .running ∧
    (((s 799974).chargeHead (.stitch 30 0) 0).condition? (.threadBreak 0)).map (·.detail) =
      some (.threadBreak .bobbin) := by decide +kernel

/-- The mend ordinals of section 8.6's example, Pb = 20. -/
theorem test_mend_ordinal :
    let s : Nat → State := fun p => { turning with run := { turning.run with ordinal := p, blockStart := 20 } }
    [(s 47).mendOrdinal, (s 50).mendOrdinal, (s 22).mendOrdinal] = [44, 47, 21] := by decide +kernel

/-- HEAD_ENABLE of an uninstalled head's bit, BOBBIN_CHANGED and MEND of a spent bobbin (R134, R149, R150). -/
theorem test_head_requests :
    answers (.headEnable [0x00, 0x10]) ready .badArgument = true ∧
    (let s : State := { ready with heads := ready.heads.set 2 { HeadRecord.cold with meter := 800000 } }
     (runs [.mend [3], .bobbinChanged [3], .mend [3]] s).map statuses = some [.bobbinSpent, .ok, .ok]) := by
  decide +kernel

theorem test_thread_pulse :
    let s : State := { ready with heads := ready.heads.set 1 { HeadRecord.cold with state := .sewing, balance := -2046 } }
    after (.threadPulse 1) s (fun t => decide ((t.heads.get 1).balance = -2048)) = true ∧
    after (.threadPulse 2) s (fun t => decide (t = s)) = true := by decide +kernel

/-! ## The frame (chapter 5) -/

/-- Homing: both switches, in either order; a travel limit fails it (R80). -/
theorem test_homing :
    (runs [.home [], .homeSwitchActive .y, .homeSwitchActive .x] ready).map (fun t => (t.frame.state, t.frame.homing)) =
      some (.known ⟨0, 0⟩, .homed) ∧
    (runs [.home [], .homeSwitchActive .y, .homeTravelLimit .x] ready).map (fun t => (t.frame.state, t.frame.homing)) =
      some (.unknown, .homeFailed) := by decide +kernel

/-- The default field's travel limits of 8,800 and 9,900 steps (R80), with ramp_allowance 6,000 µs and step_period
100 µs: allowances of 886,000 and 996,000 µs (R77). -/
theorem test_homing_allowance :
    (runs [.home []] ready).map (fun t => t.frame.state) = some (.homing ⟨false, 0, 886000⟩ ⟨false, 0, 996000⟩) := by
  decide +kernel

/-- FRAME_MOVE(+10, −20) su moves by (20, −40) steps; one that leaves the field is refused (R81). -/
theorem test_frame_move :
    (runs [.frameMove [10, 0, 0xEC, 0xFF], .moveComplete] ready).map (fun t => t.frame.state) = some (.known ⟨420, 460⟩) ∧
    (runs [.frameMove [0x38, 0xFF, 0, 0]] ready).map statuses = some [.ok] ∧
    answers (.frameMove [0x37, 0xFF, 0, 0]) ready .field = true := by decide +kernel

/-! ## Runs, walks and conditions (chapters 4, 9, 10) -/

/-- Design 0: STITCH (20, 0), STITCH (0, 30), END, at block 0; a run of it STOPPED before its END with P = F = 2. -/
def stopped : State :=
  { ready with
    store := writeRegion [] 0 0 (([.stitch 20 0, .stitch 0 30, .endRec] : List Record).map encodeRecord)
    designs := (Table.fill Descriptor.empty).set 0
      (.ready { emptyBody 0 3 ⟨true, false, false⟩ with extent := ⟨0, 20, 0, 30⟩ } (some ⟨20, 30⟩))
    run := { ready.run with
             state := .stopped, reason := .hostStop, chain := some (.main 0 1), visited := [0], ordinal := 2
             frontier := 2, resume := some (.main 0 2) } }

/-- BACK(1) retraces the second STITCH by (0, −60) steps: P = 1, F = 2, and the walk ends (R68 to R70, R87). -/
theorem test_back :
    (runs [.back [1, 0], .burstComplete, .moveComplete] stopped).map (fun t =>
      ((t.run.ordinal, t.run.frontier, t.run.lastTrace), (t.frame.state, t.run.resume, t.run.state))) =
      some ((1, 2, 1), (.known ⟨400, 440⟩, some (.main 0 1), .stopped)) := by decide +kernel

/-- STOP in BACKING lets the trace move complete, and STATUS meanwhile reports the pending stop (R72, R154, R160). -/
theorem test_stop_in_walk :
    (runs [.back [2, 0], .burstComplete, .stop []] stopped).map (fun t =>
      (t.run.state, t.run.pendingStop, t.statusReport.pendingStop)) = some (.backing, true, true) ∧
    (runs [.back [2, 0], .burstComplete, .stop [], .moveComplete] stopped).map (fun t =>
      (t.run.state, t.run.reason, t.run.lastTrace)) = some (.stopped, .hostStop, 1) := by decide +kernel

/-- FORWARD at the frontier makes no move (R71, R167). -/
theorem test_forward_at_frontier :
    (runs [.forward [1, 0]] stopped).map (fun t => (t.run.state, t.run.lastTrace, statuses t)) =
      some (.stopped, 0, [.ok]) := by decide +kernel

/-- ABORT ends the run, and RETIRE is then no longer refused with IN_USE (R16, R18, R166). -/
theorem test_abort :
    (runs [.retire [0], .abort [], .retire [0]] stopped).map (fun t => (t.run.state, t.run.result, statuses t)) =
      some (.idle, .aborted, [.inUse, .ok, .ok]) := by decide +kernel

/-- STOP with no run, RESUME with the halt line active (R160, R162). -/
theorem test_stop_resume_refused :
    answers (.stop []) ready .wrongState = true ∧
    answers (.resume []) { stopped with haltLine := true } .haltActive = true := by decide +kernel

/-- An entry opened, acknowledged, opened again, acknowledged and cleared (R179 to R182). -/
theorem test_condition_life :
    let s1 := ready.openCause (.threadBreak 2) (some 0) (.threadBreak .upper) none
    let s2 := (s1.acknowledge (.threadBreak 2)).openCause (.threadBreak 2) (some 1) (.threadBreak .bobbin) none
    let s3 := (s2.acknowledge (.threadBreak 2)).clearCause (.threadBreak 2)
    (s1.attention, (s1.acknowledge (.threadBreak 2)).attention) = (true, false) ∧
    s2.conditions.map (fun c => (c.state, c.repeats, c.needle)) = [(.opened, 1, some 1)] ∧
    (s3.conditions, s3.changes) = ([], 5) := by decide +kernel

/-- NEXT_CONDITION takes the SHAFT_STALL of severity 1 before an older THREAD_BREAK of severity 3 (R183). -/
theorem test_next_condition :
    let s := (ready.openCause (.threadBreak 2) none .none none).openCause .shaftStall none .none none
    (runs [.nextCondition []] s).map (fun t => t.link.tx.map (fun r => match r.payload with
      | .nextCondition (some (i, c)) left => (i, c.key.code, left)
      | _ => (99, 99, 99))) = some [(1, 1, 1)] := by decide +kernel

theorem test_ack_condition :
    answers (.ackCondition [9, 0]) ready .badArgument = true ∧ answers (.ackCondition [6, 0]) ready .badArgument = true ∧
    answers (.ackCondition [6, 12]) ready .notFound = true ∧ answers (.ackCondition [1, 1]) ready .badArgument = true := by
  decide +kernel

/-- CONFIGURE: the index of the first failing field (R198). -/
theorem test_configure_refused :
    (runs [.configure { Configuration.defaults with speedMin := 301, bobbinWarnPercent := 96 }.bytes] ready).map
      (fun t => (t.config, t.link.tx.map (·.payload))) = some (.defaults, [.fieldIndex 6]) := by decide +kernel

/-- RESET answers, and the link reset that follows the reply's last byte keeps the needle entries (R201). -/
theorem test_reset :
    (runs [.assign [2, 2, 1, 0, 0, 0x10, 0], .reset [], .linkReset] ready).map (fun t =>
      ((t.needles.get 1).thread.isSome, t.link.tx, t.link.cause, t.link.resetting)) =
      some (true, [], .link, false) := by decide +kernel

theorem test_lines :
    (runs [.stopLineActive, .haltLineActive] ready).map (fun t => (t.stopLine, t.haltLine)) = some (true, true) ∧
    (runs [.stopLineActive, .stopLineInactive, .haltLineActive, .haltLineInactive] ready).map (fun t =>
      decide (t = { ready with shaft := t.shaft })) = some true := by decide +kernel

theorem test_stall :
    (runs [.shaftStall] turning).map (fun t => (t.shaft.state, t.shaft.enable, t.run.state, t.run.reason,
      t.causeOpen .shaftStall)) = some (.coasting, false, .halted, .shaftStall, true) := by decide +kernel

/-- A STILL shaft turned by hand with the drive disabled: a halt has no further effect on it (R108). -/
theorem test_halt_by_hand :
    (runs [.encoderCountChange 5, .haltLineActive] ready).map (fun t => (t.shaft.state, t.shaft.atRest)) =
      some (.still, false) := by decide +kernel

/-- The frames of a position are reported outermost first, with no repetition count (R52). -/
theorem test_reported_position :
    Position.report ⟨⟨3, 2, 2, 3⟩, [⟨7, 2, 1, 1⟩]⟩ = [⟨7, 2, 1⟩, ⟨3, 2, 2⟩] := by decide

theorem test_no_word_is_a_command : decodeTableWord 8 0x27 = none := by decide

/-- A load of design 3 with the motif's first three records to come. -/
def loading (cursor : Nat) (b0 b1 : Option Staging) : State :=
  { ready with
    designs := (Table.fill Descriptor.empty).set 3 (.loading (emptyBody 40 4 ⟨false, true, false⟩) cursor)
    load := some { design := 3, position := some ⟨0, 0⟩, buffer0 := b0, buffer1 := b1, olderIs1 := false } }

def staged : Staging := { first := 0, records := [0x00001400], written := 0 }

/-! ## Witnesses: states and operands that meet the hypotheses of each statement, one line for each clause -/

theorem witness_StepRunsFrontCommand :
    { State.reset with pending := [.stopLineActive, .powerOn] }.pending = Instr.stopLineActive :: [.powerOn] ∧
    (ready.pending = [] ∧ ready.link.ready = true ∧ ready.link.rx = []) ∧
    ({ ready.link with resetting := true } : Link).ready = false ∧
    ({ ready.link with rx := [⟨1, [some 0x02], some 0xFD⟩] } : Link).rx = ⟨1, [some 0x02], some 0xFD⟩ :: [] := by
  decide +kernel

theorem witness_RecordRoundTrip :
    (Record.stitch 127 (-127)).legal = true ∧ (Record.jump 2047 (-2047)).legal = true ∧ (Record.call 31 16).legal = true ∧
    decodeRecord 0x401F000F = some (.call 31 16) := by decide

theorem witness_ConfigurationRoundTrip : Configuration.defaults.inRange = true := by decide +kernel

theorem witness_RequestFrameRoundTrip :
    requestBody (.loadData (List.replicate 199 1)) = some (0x11, List.replicate 199 1) ∧
    (Instr.loadData (List.replicate 199 1)).wellFormed = true ∧ ready.link.asm = .hunting ∧
    ready.link.rxUsed + (List.replicate 199 (1 : Byte)).length + 3 ≤ 256 ∧
    requestBody (.unknownCommand 0x2A []) = some (0x2A, []) ∧ (Instr.unknownCommand 0x2A []).wellFormed = true := by
  decide +kernel

theorem witness_CheckByteRule :
    let f : RxFrame := { length := 2, body := [some 0x20, some 0x01], check := some 0x01 }
    f.overrun = false ∧ (f.bytes ++ [f.check.getD 0]).foldl (· + ·) (BitVec.ofNat 8 f.length) ≠ 0 := by decide +kernel

theorem witness_BytesReceived :
    ({ ready.link with asm := .check 1 [some 0x02] } : Link).asm = .check 1 [some 0x02] := rfl

theorem witness_FlawedFramesAnswered : ready.served ∧ (0x00 : Byte) ∉ requestCodes ∧ (0xFF : Byte) ∉ requestCodes :=
  ⟨⟨rfl, rfl⟩, by decide⟩

/-- A reply waits behind one of 256 bytes, none of it sent; and one waits with the FIFO empty. -/
theorem witness_RepliesPlaced :
    let long : Reply := ⟨0x14, .ok, .records 0 32 (List.replicate 32 0)⟩
    let r : Reply := ⟨0x02, .ok, .empty⟩
    ({ ready.link with waiting := some r, tx := [long] } : Link).waiting = some r ∧ r.size ≤ 256 ∧ 0 < long.size ∧
    ({ ready.link with waiting := some r } : Link).tx = [] ∧ ready.link.txSent = 0 := by decide +kernel

/-- STATUS taken at once, out of the FIFO, and behind another request or a waiting reply; a flawed frame. -/
theorem witness_RepliesPlaced_frames :
    let f : RxFrame := ⟨1, [some 0x02], some 0xFD⟩
    (requestBody (.status []) = some (0x02, []) ∧ ∀ code p, Instr.status [] = .unknownCommand code p → code ∉ requestCodes) ∧
    (∃ flaw, Instr.badFrame (.badCheck 0x02) = .badFrame flaw) ∧
    (ready.link.ready = true ∧ ready.link.rx = []) ∧
    (({ ready.link with rx := [f] } : Link).rx = f :: [] ∧ f.command = .status [] ∧ f.command ≠ .stop []) ∧
    ({ ready.link with waiting := some ⟨0x02, .ok, .empty⟩ } : Link).ready = false :=
  ⟨⟨rfl, fun _ _ h => by cases h⟩, ⟨_, rfl⟩, by decide +kernel⟩

/-- With a run and without one, a frame of each kind, a needle and none, a load open and none. -/
theorem witness_StatusRequestsAnswered :
    (ready.served ∧ stopped.served ∧ (loading 1 none none).served) ∧
    (ready.run.resume = none ∧ stopped.run.resume = some (.main 0 2)) ∧
    (ready.frame.state = .known ⟨400, 500⟩ ∧ State.reset.frame.state = .unknown) ∧
    (ready.run.needle = some 0 ∧ State.reset.run.needle = none) ∧
    (ready.load = none ∧ (loading 1 none none).load = some ⟨3, some ⟨0, 0⟩, none, none, false⟩ ∧
      (loading 1 none none).designs.get 3 = .loading (emptyBody 40 4 ⟨false, true, false⟩) 1) :=
  ⟨⟨⟨rfl, rfl⟩, ⟨rfl, rfl⟩, ⟨rfl, rfl⟩⟩, by decide +kernel⟩

theorem witness_ReadConfigRule :
    ready.served ∧ (∃ t, exec .powerOn ready = .next t) ∧ (∃ t, exec .resetPin ready = .next t) ∧
    ∃ t, exec .linkReset ready = .next t := ⟨⟨rfl, rfl⟩, ⟨_, rfl⟩, ⟨_, rfl⟩, ⟨_, rfl⟩⟩

/-- The defaults, a record with a field that leaves the frame outside, one that fails, and a failing check. -/
theorem witness_ConfigureRule :
    ready.served ∧
    (let p := Configuration.defaults.bytes
     let q := { Configuration.defaults with fieldXlo := 1000, homeX := 1000 }.bytes
     (fieldValues fieldShapes p = some Configuration.defaults.values ∧ firstBadField Configuration.defaults.values = none) ∧
     ((fieldValues fieldShapes q).bind firstBadField = none ∧ (fieldValues fieldShapes q).isSome = true) ∧
     firstBadField { Configuration.defaults with headsInstalled := 13 }.values = some 0 ∧ stopped.run.state ≠ .idle ∧
     ready.run.state = .idle ∧ ready.load = none ∧ ready.frame.state.isMoving = false ∧
     ready.frame.state.isHoming = false ∧ ready.carriage.state = .idle ∧ ready.shaft.state = .still) :=
  ⟨⟨rfl, rfl⟩, by decide +kernel⟩

/-- A frame that homes and one that moves, for the clauses about them. -/
theorem witness_LinkResetResult :
    ready.served ∧ (FrameState.homing ⟨false, 0, 0⟩ ⟨true, 3, 0⟩).isHoming = true ∧
    ({ ready.frame with state := .moving ⟨.host, ⟨0, 0⟩, ⟨2, 0⟩, 6200, 1⟩ } : FrameUnit).state =
      .moving ⟨.host, ⟨0, 0⟩, ⟨2, 0⟩, 6200, 1⟩ := ⟨⟨rfl, rfl⟩, rfl, rfl⟩

/-- A READBACK burst in flight, and a LOADER burst to the last place of the store: the byte below it and its own. -/
theorem witness_ColdResetResult :
    (∀ b, { ready with burst := some ⟨.readback, 0, 0, 4, [], false⟩ }.burst = some b → b.claimant ≠ .loader) ∧
    (let b : Burst := ⟨.loader, 8191, 63, 1, [0x60000000], false⟩
     ({ ready with burst := some b } : State).burst = some b ∧ b.claimant = .loader ∧
     (∀ i, i < b.count → 2097147 < 4 * (64 * b.base + b.first + i)) ∧
     4 * (64 * b.base + b.first + 0) ≤ 2097148) := by
  refine ⟨?_, rfl, rfl, ?_, by decide⟩
  · intro b h
    cases h
    decide
  · intro i hi
    simp only at hi ⊢
    omega

/-- What holds of the body of every design that is not EMPTY. -/
theorem bodies_all (P : DesignBody → Bool) (t : Table 32 Descriptor) (h : ∀ e, (t.get e).body?.all P = true) :
    ∀ e x, (t.get e).body? = some x → P x = true := by
  intro e x hx
  simpa [hx] using h e

/-- The largest design there is, and one that ends just below design 3's block 40. -/
theorem witness_LoadOpenAccepted :
    withMain.served ∧ designOf 31 = some 31 ∧ withMain.load = none ∧ attributesOf 7 = some ⟨true, true, true⟩ ∧
    withMain.designs.get 31 = .empty ∧
    ((half 0x00 0x10).toNat < 8192 ∧ (word 0 0 4 0).toNat ≤ 262144 ∧
      (half 0x00 0x10).toNat + ((word 0 0 4 0).toNat + 63) / 64 ≤ 8192) ∧
    (∀ e x, (withMain.designs.get e).body? = some x →
      decide ((half 0x00 0x10).toNat + ((word 0 0 4 0).toNat + 63) / 64 ≤ x.base ∨
        x.base + (x.length + 63) / 64 ≤ (half 0x00 0x10).toNat) = true) ∧
    (∀ e x, (withMain.designs.get e).body? = some x →
      decide ((half 39 0).toNat + ((word 64 0 0 0).toNat + 63) / 64 ≤ x.base ∨
        x.base + (x.length + 63) / 64 ≤ (half 39 0).toNat) = true) :=
  ⟨⟨rfl, rfl⟩, by decide +kernel, rfl, by decide +kernel, by decide +kernel, by decide +kernel,
    bodies_all _ _ (by decide +kernel), bodies_all _ _ (by decide +kernel)⟩

theorem witness_LoadDataAccepted :
    (loading 1 (some staged) none).served ∧
    designOf 3 = some 3 ∧ (loading 1 (some staged) none).load = some ⟨3, some ⟨0, 0⟩, some staged, none, false⟩ ∧
    (loading 1 (some staged) none).designs.get 3 = .loading (emptyBody 40 4 ⟨false, true, false⟩) 1 ∧
    (3 : Byte).toNat = (motifWords.drop 1).length ∧ (word 1 0 0 0).toNat = 1 ∧ 1 + (motifWords.drop 1).length ≤ 4 ∧
    firstFailing 3 4 1 (motifWords.drop 1) = none ∧
    (loading 0 none none).load = some ⟨3, some ⟨0, 0⟩, none, none, false⟩ ∧ firstFailing 3 4 0 motifWords = none :=
  ⟨⟨rfl, rfl⟩, by decide +kernel⟩

/-- A move to the last code of 32 bits and past it; each kind of word; a CALL that fits at the last code and one that
does not, a PARTIAL motif; an untracked tally; 31 and 32 colours. -/
theorem witness_LoaderTally :
    (let t : Tally := { body := emptyBody 0 4 ⟨true, false, false⟩, position := some ⟨2147483647, 0⟩ }
     t.position = some ⟨2147483647, 0⟩ ∧ Point.fits32 ⟨2147483647 + 0, 0 + 5⟩ = true ∧
     Point.fits32 ⟨2147483647 + 1, 0 + 5⟩ = false) ∧
    (decodeRecord 0x00006432 = some (.stitch 100 50) ∧ decodeRecord 0x40030002 = some (.call 3 3) ∧
      decodeRecord 0x30000102 = some (.colour 0x0102) ∧ decodeRecord 0x20000000 = some .trim) ∧
    (let b : DesignBody := { emptyBody 40 4 ⟨false, true, false⟩ with extent := ⟨0, 20, 0, 15⟩ }
     b.complete = true ∧ { b with complete := false }.complete = false ∧
     (2147483597 : Int) + (3 - 1) * 15 + 20 = 2147483647 ∧ (2147483598 : Int) + (3 - 1) * 15 + 20 = 2147483648) ∧
    (Tally.untrack { body := emptyBody 0 4 ⟨true, false, false⟩, position := none }).position = none ∧
    ((List.replicate 31 (0 : Half)).length < 32 ∧ 32 ≤ (List.replicate 32 (0 : Half)).length) := by decide +kernel

theorem witness_LoadEnds :
    (loading 4 none none).served ∧
    (designOf 3 = some 3 ∧ (loading 4 none none).load = some ⟨3, some ⟨0, 0⟩, none, none, false⟩ ∧
      (loading 4 none none).designs.get 3 = .loading (emptyBody 40 4 ⟨false, true, false⟩) 4 ∧
      half 0 0 = (emptyBody 40 4 ⟨false, true, false⟩).sum ∧ half 1 0 ≠ (emptyBody 40 4 ⟨false, true, false⟩).sum) ∧
    (3 ≠ 4 ∧ (loading 3 none none).designs.get 3 = .loading (emptyBody 40 4 ⟨false, true, false⟩) 3) ∧
    ((loading 4 none (some staged)).load.bind (·.buffer1)) ≠ none := ⟨⟨rfl, rfl⟩, by decide +kernel⟩

theorem witness_DesignReports :
    withMain.served ∧ designOf 7 = some 7 ∧ (withMain.designs.get 7).isReady = true ∧ (32 : Byte).toNat ≤ 32 ∧
    (withMain.designs.get 7).length = 7 ∧ (word 6 0 0 0).toNat < 7 := ⟨⟨rfl, rfl⟩, by decide +kernel⟩

/-- Designs 0 (READY and in use), 1 (READY and LOCKED), 2 (READY), 3 (LOADING) and 4 (EMPTY). -/
def retiring : State :=
  { loading 0 none none with
    designs := ((((loading 0 none none).designs.set 0 (.ready (emptyBody 0 3 ⟨true, false, false⟩) none)).set 1
      (.ready (emptyBody 1 3 ⟨true, false, true⟩) none)).set 2 (.ready (emptyBody 2 3 ⟨true, false, false⟩) none))
    run := { ready.run with state := .stopped, visited := [0] } }

theorem witness_RetireLockRules :
    retiring.served ∧ 32 ≤ (32 : Byte).toNat ∧
    ((designOf 4, designOf 3, designOf 0, designOf 1, designOf 2) = (some 4, some 3, some 0, some 1, some 2) ∧
     retiring.designs.get 4 = .empty ∧
     retiring.designs.get 3 = .loading (emptyBody 40 4 ⟨false, true, false⟩) 0 ∧
     retiring.designs.get 0 = .ready (emptyBody 0 3 ⟨true, false, false⟩) none ∧ (0 : Design) ∈ retiring.run.visited ∧
     retiring.designs.get 1 = .ready (emptyBody 1 3 ⟨true, false, true⟩) none ∧ (1 : Design) ∉ retiring.run.visited ∧
     retiring.designs.get 2 = .ready (emptyBody 2 3 ⟨true, false, false⟩) none ∧ (2 : Design) ∉ retiring.run.visited) :=
  ⟨⟨rfl, rfl⟩, by decide, by decide +kernel⟩

/-- Urgent at 3 entries and not at 4; each mode and each last grant; the loader alone; a grant; a burst in flight. -/
theorem witness_ArbiterTable :
    ((contended .rotate .feed 3).claims .feed = true ∧ (contended .rotate .feed 3).urgent = true) ∧
    (contended .rotate .feed 4).urgent = false ∧
    ((contended .feedFirst .feed 4).config.arbiterMode = .feedFirst ∧
      (contended .loaderFirst .feed 4).config.arbiterMode = .loaderFirst ∧
      (contended .rotate .feed 4).lastGranted = .feed ∧ (contended .rotate .loader 4).lastGranted = .loader ∧
      (contended .rotate .readback 4).lastGranted = .readback) ∧
    ((loading 1 (some staged) none).claims .loader = true ∧
      ∀ e ∈ [Claimant.feed, .readback], (loading 1 (some staged) none).claims e = false) ∧
    ((loading 1 (some staged) none).burst = none ∧ (loading 1 (some staged) none).winner = some .loader ∧
      (loading 1 (some staged) none).burstFor .loader = some ⟨.loader, 40, 0, 1, [0x00001400], false⟩) ∧
    (loading 1 (some staged) none).arbitrate.burst = some ⟨.loader, 40, 0, 1, [0x00001400], false⟩ := by
  decide +kernel

/-- No burst in flight; a claim of each kind, and none; the older of two buffers, either one; a fetch position in the
main design and in a motif, and a walk each way. -/
theorem witness_ArbiterTable_bursts :
    (let s := contended .rotate .feed 8
     s.burst = none ∧ s.claims .loader = true ∧ s.claims .readback = true ∧ s.claims .feed = true) ∧
    (contended .rotate .feed 9).claims .feed = false ∧
    (let c : LoadContext := ⟨3, none, some staged, some staged, true⟩
     c.buffer1 = some staged ∧ c.olderIs1 = true ∧ c.buffer0 = some staged ∧ { c with olderIs1 := false }.olderIs1 = false) ∧
    ((loading 1 none none).designs.get 3).body? = some (emptyBody 40 4 ⟨false, true, false⟩) ∧
    ((contended .rotate .feed 8).link.readBack = some ⟨3, 0, 4, []⟩ ∧
      ((contended .rotate .feed 8).designs.get 3).body?.isSome = true) ∧
    ((contended .rotate .feed 8).feed = ⟨.filling, false, .main 7 0⟩ ∧
      ((contended .rotate .feed 8).designs.get 7).body?.isSome = true ∧
      (⟨⟨3, 1, 1, 2⟩, [⟨7, 2, 1, 1⟩]⟩ : Position).callers ≠ []) ∧
    (let w : WalkDir → Walk := fun d => { dir := d, count := 2, done := 0, held := none, want := some (.main 0 1) }
     (w .forward).want = some (.main 0 1) ∧ (w .backward).dir = .backward ∧
       (stopped.designs.get 0).body?.isSome = true) := by
  decide +kernel

/-- The last place of the store, one place past it, a feed burst that meets a word of kind 7; a READBACK burst for the
last records of a reply; FEED bursts that fill and that walk; a stale one; nothing waiting for the head of the queue. -/
theorem witness_BurstCompletes :
    let held : Burst → State := fun b => { ready with burst := some b }
    ((held ⟨.loader, 8191, 63, 1, [0x60000000], false⟩).storeCanonical ∧ regionInside 8191 63 1 = true) ∧
    regionInside 8191 63 2 = false ∧
    (regionInside 0 0 1 = true ∧ ∃ w ∈ readRegion (writePlace [] 0 0x70000000) 0 0 1, decodeRecord w = none) ∧
    (let s : State := { stopped with burst := some ⟨.readback, 0, 2, 1, [], false⟩
                                     link := { stopped.link with readBack := some ⟨0, 1, 2, [0x00001400]⟩ } }
     s.link.readBack = some ⟨0, 1, 2, [0x00001400]⟩ ∧ regionInside 0 2 1 = true ∧ s.quiet) ∧
    ([readPlace stopped.store 0, readPlace stopped.store 1, readPlace stopped.store 2].map decodeRecord =
        [Record.stitch 20 0, .stitch 0 30, .endRec].map some ∧
      ({ stopped.feed with activity := .filling } : Feed).activity = .filling ∧
      ({ stopped.feed with activity := .walking } : Feed).activity = .walking) ∧
    ((⟨.feed, 0, 0, 3, [], true⟩ : Burst).stale = true ∧ turning.quiet) := by
  refine ⟨⟨rfl, by decide +kernel⟩, by decide +kernel, ⟨by decide +kernel, 0x70000000, ?_, by decide +kernel⟩,
    ⟨rfl, by decide +kernel, Or.inr ⟨rfl, rfl⟩⟩, by decide +kernel, rfl, Or.inl (by decide)⟩
  decide +kernel

theorem witness_MalformedRefused :
    ready.served ∧ ([0] : List Byte).length ≠ 0 ∧ ([] : List Byte).length < 6 ∧
    (([0, 0, 0, 0, 0, 2] : List Byte)[5]? = some 2 ∧ ([0, 0, 0, 0, 0, 2] : List Byte).length ≠ 6 + 4 * (2 : Byte).toNat) ∧
    32 ≤ (32 : Byte).toNat ∧ ([32] : List Byte).length = 1 ∧
    ((0 : Byte).toNat = 0 ∧ ready.config.needlesInstalled < (16 : Byte).toNat ∧
      ready.config.headsInstalled < (13 : Byte).toNat) ∧ 1 < (2 : Byte).toNat := ⟨⟨rfl, rfl⟩, by decide +kernel⟩

/-- A list of checks whose last one fails, those before it holding. -/
theorem refuses_last (before : List (Prop × Status)) (c : Prop) (st : Status) (h : ∀ x ∈ before, x.1) (hc : ¬c) :
    refusesWith (before ++ [(c, st)]) st := ⟨before, c, [], by simp, h, hc⟩

/-- A list of checks whose first one fails. -/
theorem refuses_first (c : Prop) (st : Status) (after : List (Prop × Status)) (hc : ¬c) :
    refusesWith ((c, st) :: after) st := ⟨[], c, after, rfl, by simp, hc⟩

/-- The first check fails, and the last one does with those before it holding: SHAFT_TO_TDC. For each other
request the operands that it names, and a state in which its first check fails. For LOAD_DATA: no load, no and 33
records, a wrong first index, one record too many, a first failing word at index 3, and both buffers holding. For
READ_RECORDS: a design EMPTY and one LOADING, and the index past a READY design's last. -/
theorem witness_RefusalsInOrder :
    ready.served ∧ stopped.served ∧
    refusesWith [((ready.run.state = .stopped ∨ ready.run.state = .halted), .wrongState),
      (ready.haltLine = false, .haltActive)] .wrongState ∧
    (let s : State := { ready with shaft := { ready.shaft with state := .positioning } }
     refusesWith ([((s.run.state = .idle ∨ s.run.state = .stopped ∨ s.run.state = .halted), .wrongState),
       (s.haltLine = false, .haltActive), (s.carriage.state = .idle, .wrongState),
       (s.frame.state.isMoving = false ∧ s.frame.state.isHoming = false, .wrongState)] ++
       [(s.shaft.state = .still, .wrongState)]) .wrongState) ∧
    refusesWith [(stopped.run.state = .idle, .wrongState), (stopped.haltLine = false, .haltActive)] .wrongState ∧
    (∀ after, refusesWith ((¬turning.run.state = .running, .wrongState) :: after) .wrongState) ∧
    (designOf 31 = some 31 ∧ needleOf ready.config 15 = some 14 ∧ (half 0 0x10).getLsbD 12 = true ∧
      ¬12 < ready.config.headsInstalled ∧ ¬(1 ≤ (half 0 0).toNat) ∧ (loading 0 none none).load ≠ none) ∧
    (ready.load = none ∧ (loading 1 none none).load = some ⟨3, some ⟨0, 0⟩, none, none, false⟩ ∧
      (loading 1 none none).designs.get 3 = .loading (emptyBody 40 4 ⟨false, true, false⟩) 1 ∧
      (0 : Byte).toNat = ([] : List Word).length ∧ (33 : Byte).toNat = (List.replicate 33 (0 : Word)).length ∧
      (word 0 0 0 0).toNat ≠ 1 ∧ (word 1 0 0 0).toNat = 1 ∧ 4 < 1 + motifWords.length ∧
      (wordPasses 3 4 1 0x0000000F = true ∧ wordPasses 3 4 2 0x0000FB00 = true ∧ wordPasses 3 4 3 0x20000000 = false) ∧
      (loading 1 (some staged) (some staged)).load.bind (·.buffer1) ≠ none) ∧
    (ready.designs.get 3 = .empty ∧ (withMain.designs.get 7).length = 7 ∧ ¬(word 7 0 0 0).toNat < 7 ∧
      ¬(33 : Byte).toNat ≤ 32) := by
  refine ⟨⟨rfl, rfl⟩, ⟨rfl, rfl⟩, refuses_first _ _ _ (by decide), refuses_last _ _ _ ?_ (by decide),
    refuses_first _ _ _ (by decide), fun after => refuses_first _ _ after (by decide), by decide +kernel,
    by decide +kernel, by decide +kernel⟩
  simp [ready, State.reset, FrameState.isMoving, FrameState.isHoming]

/-- A motif of 4 records on its END with a repetition left and with none, an empty motif, and the main design. -/
theorem witness_SettledPosition :
    let len : Design → Nat := fun d => if d = 3 then 4 else 1
    ((⟨3, 3, 1, 2⟩ : ChainFrame).index + 1 = len 3 ∧ 1 < len 3 ∧ (1 : Nat) < 2) ∧
    ((⟨3, 3, 2, 2⟩ : ChainFrame).reps ≤ (⟨3, 3, 2, 2⟩ : ChainFrame).rep) ∧ len 5 = 1 ∧
    (⟨3, 2, 1, 2⟩ : ChainFrame).index + 1 ≠ len 3 := by decide

theorem witness_EntryAnnotated :
    (0 < (annotating.annotate (.stitch 25 (-40)) (.main 0 0)).time ∧
      (annotating.annotate (.jump 0 0) (.main 0 0)).time = 0) ∧
    (∀ dx dy, EntryKind.pause ≠ .stitch dx dy ∧ EntryKind.pause ≠ .jump dx dy) ∧
    turning.queue.getLast? = some (entryOf (.stitch 20 0) 1) ∧
    (annotating.queue = [] ∧ annotating.frame.state = .known ⟨4000, 4000⟩) ∧
    (let f : FrameUnit := { annotating.frame with state := .moving ⟨.sewing, ⟨0, 0⟩, ⟨2, 0⟩, 6200, 1⟩ }
     f.state = .moving ⟨.sewing, ⟨0, 0⟩, ⟨2, 0⟩, 6200, 1⟩ ∧ f.followOn = none ∧
     { f with followOn := some ⟨⟨0, 2⟩, 6200⟩ }.followOn = some ⟨⟨0, 2⟩, 6200⟩) := by
  refine ⟨by decide +kernel, fun _ _ => ⟨nofun, nofun⟩, by decide +kernel, ⟨rfl, rfl⟩, by decide +kernel⟩

/-- A CALL at design 7's record 2 from the main frame: the motif absent, not callable, the design itself, a chain
of four frames, and a motif that is entered. -/
theorem witness_FeedProcessesRecords :
    let p : Position := .main 7 2
    let deep : Position := ⟨⟨7, 2, 1, 1⟩, [⟨8, 0, 1, 1⟩, ⟨9, 0, 1, 1⟩, ⟨10, 0, 1, 1⟩]⟩
    ({ withMain with feed := { ready.feed with fetch := p } } : State).feed.fetch = p ∧
    (withMain.designs.get 12).isReady = false ∧
    ((withMain.designs.get 7).isReady = true ∧ ((withMain.designs.get 7).body?.map (·.attrs.callable)) = some false) ∧
    ((withMain.designs.get 3).body?.map (·.attrs.callable)) = some true ∧
    (3 : Design) ∈ (⟨⟨3, 1, 1, 1⟩, [⟨7, 2, 1, 1⟩]⟩ : Position).designs ∧
    ((3 : Design) ∉ deep.designs ∧ 4 ≤ deep.depth) ∧ ((3 : Design) ∉ p.designs ∧ p.depth < 4) ∧
    withMain.conditionsSound := by
  refine ⟨rfl, by decide +kernel, by decide +kernel, by decide +kernel, by decide, by decide, by decide, ?_⟩
  unfold State.conditionsSound
  decide +kernel

theorem witness_MinorPulses : (50 ≤ 80 ∧ 0 < 80) ∧ (0 ≤ 80 ∧ 1 ≤ 50 ∧ 50 ≤ 50) ∧ (0 ≤ 1 ∧ 0 < 1) := by decide

/-- A sewing move with a follow-on, one that is at its last pulse, a host move, homing, and a frame at rest. -/
theorem witness_HaltStopsFrame :
    let m : MoveKind → Nat → Move := fun k n => ⟨k, ⟨0, 0⟩, ⟨4, -2⟩, 6400, n⟩
    let s : State := { annotating with frame := { annotating.frame with state := .moving (m .sewing 4) } }
    (s.frame.state = .moving (m .sewing 4) ∧ (m .sewing 4).issued ≤ (m .sewing 4).disp.major) ∧
    ((m .sewing 0).kind ≠ .host ∧ s.run.state ≠ .idle) ∧ (m .host 4).kind = .host ∧
    ((m .sewing 4).target.add ⟨0, 0⟩ = ⟨4, -2⟩ ∧ (m .sewing 4).position = ⟨4, -2⟩ ∧ (m .sewing 0).position = ⟨0, 0⟩) ∧
    (FrameState.homing ⟨false, 0, 0⟩ ⟨false, 0, 0⟩).isHoming = true ∧
    (annotating.frame.state.isMoving = false ∧ annotating.frame.state.isHoming = false) := by decide +kernel

theorem witness_EmergencyHalt :
    turning.haltLine = false ∧ { turning with haltLine := true }.haltLine = true ∧ 0 < turning.shaft.command ∧
    (ready.run.state = .idle ∧ turning.run.state = .running ∧ stopped.run.state = .stopped) ∧
    (ready.shaft.enable = false ∧ ready.shaft.state = .still ∧ { ready.shaft with atRest := false }.atRest = false) := by
  decide +kernel

/-- A stationary entry is taken, and its move is in flight (R96). -/
def awaiting (kind : RevKind) : State :=
  { annotating with
    frame := { annotating.frame with state := .moving ⟨.stationary, ⟨4000, 4000⟩, ⟨10, 0⟩, 7000, 9⟩ }
    shaft := { annotating.shaft with active := some { kind := kind, pen := .fill false, awaiting := true } }
    heads := ready.heads.set 0 { HeadRecord.cold with state := .sewing } }

/-- Homing with one switch found and with none; the lowest and the highest target; a follow-on; a stationary move. -/
theorem witness_FrameRequests :
    ready.served ∧
    (ready.run.state = .idle ∧ ready.haltLine = false ∧ ready.frame.state.isHoming = false ∧
      ready.frame.state.isMoving = false ∧ ready.atTdc = true ∧ ready.frame.state = .known ⟨400, 500⟩) ∧
    ((⟨true, 3, 0⟩ : HomeAxis).found = true ∧ (⟨false, 3, 0⟩ : HomeAxis).found = false) ∧
    (2 * ready.config.fieldXlo ≤ 400 + 2 * (half 0x38 0xFF).toInt ∧
      400 + 2 * (half 0xD8 0x0E).toInt ≤ 2 * ready.config.fieldXhi ∧
      2 * ready.config.fieldYlo ≤ 500 + 2 * (half 0 0).toInt ∧ 500 + 2 * (half 0 0).toInt ≤ 2 * ready.config.fieldYhi) ∧
    (let m : Move := ⟨.host, ⟨0, 0⟩, ⟨2, 0⟩, 6200, 1⟩
     ({ ready.frame with state := .moving m } : FrameUnit).followOn = none ∧ m.kind = .host) ∧
    (let m : Move := ⟨.sewing, ⟨0, 0⟩, ⟨2, 0⟩, 6200, 1⟩
     ({ ready.frame with state := .moving m, followOn := some ⟨⟨0, 2⟩, 6200⟩ } : FrameUnit).followOn =
       some ⟨⟨0, 2⟩, 6200⟩ ∧ m.kind = .sewing ∧ (⟨0, 2⟩ : Point) ≠ ⟨0, 0⟩) ∧
    (let s := awaiting (.stitch 5 0)
     s.frame.followOn = none ∧ s.shaft.active = some ⟨.stitch 5 0, .fill false, true⟩ ∧ s.shaft.state = .still ∧
     s.shaft.atRest = true ∧ s.sewing = true ∧ s.shaft.stopReq = .none ∧
     { s.shaft with stopReq := .quick }.stopReq = .quick) ∧
    ((awaiting .jump).shaft.active = some ⟨.jump, .fill false, true⟩ ∧ (awaiting .jump).queue = [] ∧
      (awaiting .jump).run.pendingStop = false) := ⟨⟨rfl, rfl⟩, by decide +kernel⟩

theorem witness_SpeedPlan :
    ({ turning with shaft := { turning.shaft with backoff := true } } : State).shaft.backoff = true ∧
    (turning.shaft.backoff = false ∧ turning.shaft.stopReq ≠ .controlled) ∧
    (turning.config.speedMin ≤ turning.config.speedMax ∧ turning.shaft.vPrev ≤ turning.config.speedMax) ∧
    [entryOf (.colour 1) 2][0]? = some (entryOf (.colour 1) 2) ∧
    ((matching 0).run.needle = some 0 ∧ ((matching 0).needles.get 0).thread = some ⟨0x0102, 0, 1200⟩ ∧
      turning.run.needle = some 0 ∧ (turning.needles.get 0).thread = none) := by decide +kernel

/-- At a crossing that completes a record: one to begin, one with a controlled stop at speed_min + 1, none, a stop
entry, and a controlled stop at speed_min; a shaft that brakes, that is positioned and that parks. -/
theorem witness_Crossings :
    let c : Nat → Shaft := fun v => { turning.shaft with stopReq := .controlled, vPrev := v }
    (turning.shaft.crossed = false ∧ turning.shaft.atRest = false ∧ turning.conditionsSound ∧
      0 < turning.shaft.command) ∧
    (turning.shaft.state = .turning ∧ turning.shaft.stopReq ≠ .quick ∧
      turning.queue = entryOf (.stitch 20 0) 1 :: [] ∧ turning.run.state = .running ∧
      (entryOf (.stitch 20 0) 1).isStop = false ∧
      (let s : State := { turning with heads := turning.heads.set 0 { HeadRecord.cold with state := .sewing } }
       s.completeRecord.shaft.stopReq ≠ .controlled)) ∧
    turning.config.speedMin < (c 121).vPrev ∧
    ({ turning with queue := [] } : State).queue = [] ∧ (entryOf .pause 1).isStop = true ∧
    (c 120).vPrev ≤ turning.config.speedMin ∧
    (let at? : ShaftState → Shaft := fun x => { turning.shaft with state := x }
     (at? .braking).state = .braking ∧ (at? .positioning).state = .positioning ∧ (at? .parking).state = .parking) := by
  refine ⟨⟨rfl, rfl, by unfold State.conditionsSound; decide +kernel, by decide⟩, ⟨rfl, by decide, rfl, rfl, rfl, ?_⟩,
    by decide +kernel⟩
  decide +kernel

/-- The count below Wo and below Wc, so that the next count makes the crossing; and the crossing it made already. -/
theorem witness_crossings_by_count :
    (countOf turning.config.windowOpen = (703 : BitVec 10) + 1 ∧ countOf turning.config.windowClose = (223 : BitVec 10) + 1 ∧
      countOf turning.config.windowClose ≠ countOf turning.config.windowOpen) ∧
    (let sh : Shaft := { turning.shaft with crossed := true, angle := 704 }
     sh.crossed = true ∧ sh.angle = countOf turning.config.windowOpen ∧ sh.angle ≠ countOf turning.config.windowClose ∧
       { sh with angle := 224 }.angle = countOf turning.config.windowClose) := by decide +kernel

theorem witness_WindowClose :
    turning.shaft.crossed = false ∧ turning.carriage.state = .idle ∧ turning.frame.followOn = none ∧
    turning.frame.state.isMoving = false ∧
    ({ turning.frame with followOn := some ⟨⟨0, 2⟩, 6200⟩ } : FrameUnit).followOn ≠ none := by decide +kernel

/-- A step back, a step on to no crossing angle, a jump on to one; rest in the band and outside it. -/
theorem witness_ShaftTurnsAndRests :
    (turning.shaft.angle = 820 ∧ (819 : BitVec 10) ≠ 820 ∧ (819 : BitVec 10) ≠ turning.shaft.angle + 1) ∧
    ((821 : BitVec 10) = turning.shaft.angle + 1 ∧ (821 : BitVec 10).toNat ≠ turning.config.windowOpen ∧
      (821 : BitVec 10).toNat ≠ turning.config.windowClose) ∧
    ((704 : BitVec 10) ≠ turning.shaft.angle + 1 ∧ turning.config.windowOpen < 1024 ∧ turning.config.windowClose < 1024 ∧
      turning.shaft.atRest = false) ∧
    (let s : State := { ready with shaft := { ready.shaft with state := .positioning, atRest := false, angle := 1008 } }
     s.run.state ≠ .running ∧ s.run.state ≠ .stopping ∧ s.shaft.active = none ∧ s.shaft.pendingFlag = false ∧
     inBand s.config 1008 = true ∧ inBand s.config 1007 = false ∧ inBand s.config 16 = true ∧ inBand s.config 17 = false) := by
  decide +kernel

/-- A quick stop's braking ends with a STITCH, a JUMP and no record in progress, and with a move in flight. -/
theorem witness_ShaftTurnsAndRests_braking :
    let sh : Option RevKind → Shaft := fun k => { turning.shaft with
      state := .braking, stopReq := .quick, active := k.map fun k => ⟨k, .fill true, false⟩ }
    ((sh none).state = .braking ∧ (sh none).atRest = false ∧ (sh none).stopReq = .quick ∧ turning.run.state = .running) ∧
    ((sh (some (.stitch 20 0))).active.map (·.kind) = some (.stitch 20 0) ∧ (sh (some .jump)).active.isSome = true ∧
      (sh none).active = none) ∧
    (turning.frame.state.isMoving = false ∧ (awaiting .trim).frame.state.isMoving = true) := by decide +kernel

/-- A shaft that parks in the band, with `q` queued and code `c` at the carriage. -/
def parking (q : List Entry) (c : Fin 16) : State :=
  { (matching 0) with
    run := { (matching 0).run with state := .running, chain := some (.main 0 0) }
    feed := { activity := .filling, blocked := true, fetch := .main 0 2 }
    carriage := { ready.carriage with code := c }
    shaft := { ready.shaft with state := .parking, atRest := false, angle := 1020 }
    queue := q }

/-- The block-end stop due, with one head BROKEN under RUN_ON. -/
def blockEnding (q : List Entry) : State :=
  { parking q 1 with
    config := { (parking q 1).config with breakPolicy := .runOn }
    heads := ready.heads.set 0 { HeadRecord.cold with state := .broken 1 } }

theorem witness_ParkedHeadOfQueue :
    (let s := parking [] 1
     s.shaft.state = .parking ∧ s.shaft.atRest = false ∧ inBand s.config s.shaft.angle = true ∧ s.shaft.active = none ∧
     s.shaft.pendingFlag = false ∧ s.frame.state.isMoving = false ∧ s.run.state = .running ∧ s.shaft.stopReq ≠ .quick ∧
     s.queue = [] ∧ s.run.pendingStop = false) ∧
    ((entryOf .pause 1).kind = .pause ∧ (entryOf (.fault .tooDeep) 1).kind = .fault .tooDeep ∧
     (entryOf .endMain 1).kind = .endMain ∧ (entryOf .trim 1).kind = .trim ∧ (entryOf .trim 1).limit = false) ∧
    ({ entryOf (.jump 9 9) 1 with limit := true }.isMovement = true ∧ { entryOf (.jump 9 9) 1 with limit := true }.limit = true) ∧
    (let s := blockEnding [entryOf (.colour 0x0102) 1]
     s.config.breakPolicy = .runOn ∧ s.anyBroken = true ∧ s.run.blockEnd = false) ∧
    (parking [entryOf (.colour 0x0102) 1] 0).carriagePosition = none ∧
    ((parking [entryOf (.colour 0x0500) 1] 1).carriagePosition = some 0 ∧
      (parking [entryOf (.colour 0x0500) 1] 1).select 0x0500 = .unmatched .none) ∧
    ((parking [entryOf (.colour 0x0105) 1] 1).select 0x0105 = .needle 1 ∧ (1 : Needle) ≠ 0) ∧
    (let e := entryOf (.stitch 20 0) 1
     let s := parking [e] 1
     e.isMovement = true ∧ e.limit = false ∧ s.run.pendingStop = false ∧ s.carriage.state = .idle ∧
     s.haltLine = false ∧ e.stationary = false ∧ { e with stationary := true }.stationary = true ∧
     s.frame.state = .known ⟨400, 500⟩ ∧ e.disp ≠ ⟨0, 0⟩ ∧ { s.run with state := .stopping }.state ≠ .running) := by
  decide +kernel

/-- A move of a kind in flight with the shaft at rest at TDC and `q` queued. -/
def arriving (kind : MoveKind) (q : List Entry) : State :=
  { parking q 1 with
    shaft := ready.shaft
    frame := { ready.frame with state := .moving ⟨kind, ⟨0, 0⟩, ⟨2, 0⟩, 6200, 1⟩, residual := some ⟨2, 0⟩ } }

/-- The residual move and a sewing move complete: nothing queued, a pending stop, an entry to begin, one that waits for
the halt line, a quick stop with a STITCH, a JUMP and no record begun. -/
theorem witness_FrameRequests_arrivals :
    (let s := arriving .residual []
     s.frame.followOn = none ∧ s.run.state = .running ∧ s.shaft.state = .still ∧ s.shaft.atRest = true ∧ s.atTdc = true ∧
     s.shaft.active = none ∧ s.shaft.stopReq = .none ∧ s.queue = [] ∧ s.run.pendingStop = false ∧
     { s.run with pendingStop := true }.pendingStop = true) ∧
    (let e := entryOf (.stitch 20 0) 1
     let s := arriving .sewing [e]
     s.queue = e :: [] ∧ e.isMovement = true ∧ e.limit = false ∧ e.stationary = false ∧ s.carriage.state = .idle ∧
     s.haltLine = false ∧ { s with haltLine := true }.haltLine = true) ∧
    ({ ready.shaft with stopReq := .quick, active := some ⟨.jump, .fill false, true⟩ }.active =
        some ⟨.jump, .fill false, true⟩ ∧ RevKind.stitch 20 0 ≠ .jump) ∧
    turning.shaft.state ≠ .still := by decide +kernel

/-- A COLOUR for the needle where the carriage stands, with both enabled heads to sew. -/
theorem witness_ParkedHeadOfQueue_colour :
    let s : State := { parking [entryOf (.colour 0x0102) 1] 1 with
      enable := 3
      heads := (ready.heads.set 0 { HeadRecord.cold with state := .waiting 4 }).set 1
        { HeadRecord.cold with state := .sewing } }
    s.carriagePosition = some 0 ∧ s.select 0x0102 = .needle 0 ∧ s.enabled 1 = true ∧ s.config.breakPolicy = .stop ∧
    (∀ h, s.enabled h = true → (s.needles.get 0).perHead.get h = .ready ∧
      ((s.heads.get h).state = .sewing ∨ (s.heads.get h).state = .waiting 4)) ∧
    (s.run.pendingStop = false ∧ s.config.autoResume = false ∧ s.queue = entryOf (.colour 0x0102) 1 :: []) := by
  decide +kernel

theorem witness_ShaftRequests :
    ready.served ∧ ready.run.state = .idle ∧ ready.haltLine = false ∧ ready.carriage.state = .idle ∧
    ready.frame.state.isMoving = false ∧ ready.frame.state.isHoming = false ∧ ready.shaft.state = .still ∧
    ready.atTdc = true ∧ ({ ready with shaft := { ready.shaft with angle := 500 } } : State).atTdc = false :=
  ⟨⟨rfl, rfl⟩, by decide +kernel⟩

/-- In section 7.2's table: one equal code, two equal codes with the current needle matching and not, one needle
that matches, none, and two that match. -/
theorem witness_SelectionOrder :
    let fits : Half → Needle → Prop := fun c n => (matching 0).entryMatches c n = true
    (((matching 0).needles.get 0).thread = some ⟨0x0102, 0, 1200⟩ ∧ 0 + 1 ≤ (matching 0).config.needlesInstalled) ∧
    ((matching 2).run.needle = some 2 ∧ (matching 2).entryMatches 0x0204 2 = true) ∧
    (¬fits 0x0105 0 ∧ fits 0x0105 1 ∧ ∀ m, fits 0x0105 m → m = 1) ∧ (∀ m, ¬fits 0x0500 m) ∧
    (fits 0x0204 2 ∧ fits 0x0204 3 ∧ (2 : Needle) ≠ 3 ∧ ¬fits 0x0204 0) := by decide +kernel

/-- Needle 15 and head 12; the current needle of a run; a BROKEN state at the current needle and at another; the
bobbin one su below its capacity and at it; no current needle. -/
theorem witness_NeedleTableRequests :
    (ready.served ∧ stopped.served ∧ stopped.conditionsSound) ∧
    (needleOf ready.config 15 = some 14 ∧ headOf ready.config 12 = some 11 ∧ ready.run.state = .idle) ∧
    (stopped.run.state ≠ .idle ∧ stopped.run.needle = some 0 ∧ stopped.run.needle ≠ some 14) ∧
    (let e : NeedleEntry := { thread := none, perHead := (Table.fill NeedleState.ready).set 11 .broken }
     let s : State := { stopped with needles := stopped.needles.set 0 e }
     (s.needles.get 0).perHead.get 11 = .broken ∧ (s.needles.get 14).perHead.get 11 ≠ .broken) ∧
    (799999 < ready.config.bobbinCapacity * 100 ∧ ready.config.bobbinCapacity * 100 ≤ 800000) ∧
    State.reset.run.needle = none :=
  ⟨⟨⟨rfl, rfl⟩, ⟨rfl, rfl⟩, by unfold State.conditionsSound; decide +kernel⟩, by decide +kernel⟩

theorem witness_ClearNeedleRule :
    stopped.served ∧ needleOf stopped.config 1 = some 0 ∧ needleOf stopped.config 15 = some 14 ∧
    (stopped.run.state ≠ .idle ∧ stopped.run.needle = some 0) ∧ stopped.run.needle ≠ some 14 ∧
    (stopped.needles.get 14).thread = none := ⟨⟨rfl, rfl⟩, by decide +kernel⟩

/-- From needle 1 to 1, to 15 and from between two positions; a step to its position, to one short of the target,
and to a wrong one; the settle with the code and without it; no settle time. -/
theorem witness_CarriageMoves :
    ready.served ∧
    (ready.run.state = .idle ∧ ready.shaft.active = none ∧ ready.haltLine = false ∧ ready.shaft.atRest = true ∧
      ready.shaft.command = 0 ∧ ready.carriage.state = .idle ∧ ready.conditionsSound) ∧
    (ready.carriage.code.val = (0 : Needle).val + 1 ∧ needleAt ready.carriage.code = some 0 ∧ (0 : Needle) ≠ 14 ∧
      State.reset.carriage.code.val = 0 ∧ needleOf ready.config 15 = some 14) ∧
    ((2 : Fin 16).val = (1 : Needle).val + 1 ∧ (1 : Needle) ≠ 2 ∧ (2 : Fin 16) ≠ ready.carriage.code ∧
      needleAt 5 = some 4 ∧ (4 : Needle) ≠ 1 ∧ ready.carriage.last ≠ some 4) ∧
    (0 < ready.config.carriageSettle ∧ { ready.config with carriageSettle := 0 }.carriageSettle = 0) ∧
    ((15 : Fin 16) ≠ ready.carriage.code ∧ needleAt 15 = some 14 ∧
      ({ ready.carriage with state := .stepping 14 none } : Carriage).state = .stepping 14 none) ∧
    ((1 : BitVec 10) ≠ ready.shaft.angle ∧ ready.shaft.crossed = false) ∧
    ((0 : Fin 16) ≠ ready.carriage.code ∧ (1 : Fin 16) = ready.carriage.code ∧
      ({ ready.carriage with state := .settling 3 } : Carriage).state = .settling 3) := by
  refine ⟨⟨rfl, rfl⟩, ⟨rfl, rfl, rfl, rfl, rfl, rfl, ?_⟩, by decide +kernel, by decide +kernel, by decide +kernel,
    by decide +kernel⟩
  unfold State.conditionsSound
  decide +kernel

/-- A colour change at its settle, with two heads enabled, a pending stop or not. -/
def changing (pendingStop : Bool) (carriage : CarriageState) : State :=
  { ready with
    run := { ready.run with state := .changing, pendingStop := pendingStop }
    queue := [entryOf (.colour 0x0105) 1]
    enable := 3
    heads := ((Table.fill { HeadRecord.cold with state := .off }).set 0 { HeadRecord.cold with state := .waiting 4 }).set
      1 { HeadRecord.cold with state := .sewing }
    carriage := { ready.carriage with code := 2, state := carriage } }

theorem witness_ColourChange :
    ((changing false (.settling 1)).served ∧ (changing false (.settling 1)).conditionsSound) ∧
    (let s := changing false (.settling 1)
     (s.run.state = .changing ∧ s.queue = entryOf (.colour 0x0105) 1 :: [] ∧ s.shaft.active = none ∧
       s.shaft.stopReq ≠ .quick) ∧
     (s.carriage.state = .settling 1 ∧ s.carriage.code.val = (1 : Needle).val + 1 ∧ s.enabled 0 = true) ∧
     (∀ h, s.enabled h = true → (s.needles.get 1).perHead.get h = .ready ∧
       ((s.heads.get h).state = .sewing ∨ (s.heads.get h).state = .waiting 4)) ∧
     (s.run.pendingStop = false ∧ s.config.autoResume = false ∧ { s.config with autoResume := true }.autoResume = true)) ∧
    (changing true (.settling 1)).run.pendingStop = true ∧
    ((changing false (.settling 2)).carriage.code.val ≠ (2 : Needle).val + 1) ∧
    (changing false (.stepping 4 (some 2))).carriage.state = .stepping 4 (some 2) ∧
    ((3 : Fin 16) ≠ (changing true (.stepping 4 (some 2))).carriage.code ∧ (3 : Fin 16).val = (2 : Needle).val + 1) ∧
    (let s := changing false (.stepping 4 none)
     s.shaft.atRest = true ∧ s.shaft.state = .still ∧ (1023 : BitVec 10) ≠ s.shaft.angle) ∧
    ((changing false (.settling 1)).stopLine = false ∧ (changing true (.settling 1)).stopLine = false ∧
      ({ changing true (.settling 1) with stopLine := true } : State).stopLine = true) := by
  refine ⟨⟨⟨rfl, rfl⟩, ?_⟩, by decide +kernel⟩
  unfold State.conditionsSound
  decide +kernel

/-- Both enabled heads not READY at the target, one of them alone, and the two policies; TDC, with an entry to begin
and a PAUSE behind the COLOUR. -/
theorem witness_ColourChange_heads :
    let lose : List Head → State := fun hs => { changing false (.settling 1) with
      needles := ready.needles.set 1 { thread := none, perHead := hs.foldl (fun p h => p.set h .broken) (.fill .ready) }
      queue := [entryOf (.colour 0x0105) 1, entryOf (.stitch 20 0) 2, entryOf .pause 3] }
    ((lose [0]).enabled 0 = true ∧ ((lose [0]).needles.get 1).perHead.get 0 ≠ .ready ∧
      ((lose [0]).heads.get 0).state = .waiting 4 ∧ ((lose [0]).needles.get 1).perHead.get 1 = .ready ∧
      ((lose [0]).heads.get 1).state = .sewing) ∧
    (∀ h, ((lose [0, 1]).enabled h = true → ((lose [0, 1]).needles.get 1).perHead.get h ≠ .ready) ∧
      ((lose [0, 1]).enabled h = false → ((lose [0, 1]).heads.get h).state.isSound = false)) ∧
    ((lose []).config.breakPolicy = .stop ∧ { (lose []).config with breakPolicy := .runOn }.breakPolicy = .runOn) ∧
    ((lose []).shaft.state = .still ∧ (lose []).atTdc = true ∧ (lose []).frame.state.isMoving = false ∧
      (lose []).haltLine = false ∧ (lose []).queue.drop 1 = entryOf (.stitch 20 0) 2 :: [entryOf .pause 3] ∧
      (entryOf (.stitch 20 0) 2).isMovement = true ∧ (entryOf (.stitch 20 0) 2).limit = false ∧
      (entryOf (.stitch 20 0) 2).stationary = false ∧ (entryOf .pause 3).kind = .pause) := by decide +kernel

theorem witness_HeadRequests :
    ready.served ∧ ready.conditionsSound ∧ ready.run.state = .idle ∧ ready.shaft.pendingFlag = false ∧
    (∀ i, i < 16 → (half 0xFE 0x0F).getLsbD i = true → i < ready.config.headsInstalled) ∧
    ((half 0xFE 0x0F).getLsbD 0 = false ∧ (ready.heads.get 0).state ≠ .off) ∧ headOf ready.config 12 = some 11 ∧
    ready.causeOpen (.bobbinLow 11) = false ∧
    ((changing false .idle).heads.get 1).state = .sewing ∧ ((changing false .idle).heads.get 0).state ≠ .sewing := by
  refine ⟨⟨rfl, rfl⟩, by unfold State.conditionsSound; decide +kernel, by decide +kernel⟩

/-- With the defaults: grace left; a sound outcome at 120; a break at 121; −160 and −161; the capacity and one below;
the warning and one below; a quiet count that runs out. The record in progress, with sound heads, with none left, and
in a held run. -/
theorem witness_ThreadCharge :
    (0 < { HeadRecord.cold with grace := 2 }.grace ∧ HeadRecord.cold.grace = 0 ∧ HeadRecord.cold.looseQuiet = none ∧
      { HeadRecord.cold with looseQuiet := some 1 }.looseQuiet = some 1) ∧
    (min 2047 ((108 : Int) + 12) ≤ (Configuration.defaults.breakThreshold : Int) ∧
      (Configuration.defaults.breakThreshold : Int) < min 2047 ((109 : Int) + 12)) ∧
    (¬min 2047 ((-172 : Int) + 12) < -(Configuration.defaults.looseThreshold : Int) ∧
      min 2047 ((-173 : Int) + 12) < -(Configuration.defaults.looseThreshold : Int)) ∧
    (Configuration.defaults.bobbinCapacity * 100 ≤ 799988 + 12 ∧ 799987 + 12 < Configuration.defaults.bobbinCapacity * 100) ∧
    (679987 + 12 < Configuration.defaults.bobbinCapacity * 100 * Configuration.defaults.bobbinWarnPercent / 100 ∧
      Configuration.defaults.bobbinCapacity * 100 * Configuration.defaults.bobbinWarnPercent / 100 ≤ 679988 + 12) ∧
    (turning.run.state = .running ∧ turning.shaft.stopReq = .none ∧ turning.config.breakPolicy = .stop) ∧
    turning.shaft.active = some ⟨.stitch 20 0, .fill true, false⟩ ∧
    ((∀ h, (turning.heads.get h).state.isSound = false) ∧ ((awaiting .trim).heads.get 0).state.isSound = true ∧
      stopped.run.state = .stopped) := by decide +kernel

/-- Head 1 READY and not READY at the current needle; the mend ordinal at P + 1 and past it; P below F and at it. -/
theorem witness_PlacementTable :
    (stopped.readyNow 0 = true ∧ State.reset.readyNow 0 = false) ∧ (3 ≤ stopped.run.ordinal + 1 ∧ stopped.run.ordinal + 1 < 4) ∧
    (stopped.run.frontier ≤ stopped.run.ordinal ∧ { stopped.run with ordinal := 1 }.ordinal < stopped.run.frontier) ∧
    ((changing false .idle).run.state = .changing ∧ (changing false .idle).readyNow 0 = true ∧
      (changing false .idle).run.pendingStop = false ∧ (changing false .idle).config.breakPolicy = .stop) := by
  decide +kernel

theorem witness_StartAndResume :
    (sewn.served ∧ stopped.served) ∧
    (sewn.haltLine = false ∧ sewn.atTdc = true ∧ sewn.queue = [] ∧ sewn.shaft.stopReq = .none ∧
      sewn.run.pendingStop = false ∧ sewn.shaft.active = none ∧ designOf 7 = some 7 ∧ sewn.run.state = .idle) ∧
    ((sewn.designs.get 7).isReady = true ∧ (sewn.designs.get 7).body?.map (·.attrs.startable) = some true ∧
      sewn.frame.state = .known ⟨400, 500⟩ ∧ sewn.config.boxInField ⟨400, 500⟩ ⟨-155, 150, 0, 95⟩ = true ∧
      sewn.carriagePosition = some 0 ∧ sewn.enabled 11 = true ∧ (sewn.needles.get 0).perHead.get 11 = .ready ∧
      (sewn.heads.get 11).state = .idle) ∧
    (stopped.haltLine = false ∧ stopped.atTdc = true ∧ stopped.queue = [] ∧ stopped.shaft.stopReq = .none ∧
      stopped.run.pendingStop = false ∧ stopped.shaft.active = none ∧ stopped.run.state = .stopped ∧
      stopped.frame.state = .known ⟨400, 500⟩ ∧ stopped.carriagePosition = some 0 ∧ stopped.run.needle = some 0 ∧
      stopped.enabled 11 = true ∧ (stopped.heads.get 11).state ≠ .off ∧ stopped.frame.residual = none) ∧
    ({ stopped.frame with residual := some ⟨13, -20⟩ }.residual = some ⟨13, -20⟩ ∧ (⟨13, -20⟩ : Point) ≠ ⟨0, 0⟩) :=
  ⟨⟨⟨rfl, rfl⟩, ⟨rfl, rfl⟩⟩, by decide +kernel⟩

/-- No enabled head READY, and no other head sound; a residual move and none. -/
theorem witness_StartAndResume_noHeads :
    let bare : State → State := fun s => { s with needles := .fill { thread := none, perHead := .fill .empty } }
    ((bare sewn).enabled 11 = true ∧ (bare sewn).shaft.state = .still ∧ (bare sewn).haltLine = false ∧
      (bare stopped).enabled 11 = true ∧ (bare stopped).shaft.state = .still ∧ (bare stopped).frame.residual = none) ∧
    (∀ h, ((bare sewn).needles.get 0).perHead.get h ≠ .ready ∧ ((bare sewn).heads.get h).state.isSound = false ∧
      ((bare stopped).needles.get 0).perHead.get h ≠ .ready ∧ ((bare stopped).heads.get h).state.isSound = false) := by
  decide +kernel

/-- At rest at TDC with nothing queued and with an entry; a move in flight; STOPPING with a stop requested; a shaft that
parks, one that has not left rest, one that coasts; a JUMP and a STITCH in progress. -/
theorem witness_StopRequests_sewing :
    let rest : List Entry → State := fun q => { arriving .sewing q with frame := ready.frame }
    let e := entryOf (.stitch 20 0) 1
    ((rest []).served ∧ (rest [e]).served ∧ (arriving .sewing [e]).served ∧ turning.served) ∧
    ((rest []).run.state = .running ∧ (rest []).shaft.state = .still ∧ (rest []).shaft.atRest = true ∧ (rest []).atTdc = true ∧
      (rest []).shaft.active = none ∧ (rest []).shaft.stopReq = .none ∧ (rest []).queue = [] ∧
      (rest []).frame.state.isMoving = false ∧ (rest []).stopLine = false) ∧
    ((rest [e]).queue = e :: [] ∧ e.isMovement = true ∧ e.limit = false ∧
      (arriving .sewing [e]).frame.state.isMoving = true) ∧
    ({ turning.run with state := .stopping }.state = .stopping ∧
      { turning.shaft with stopReq := .controlled }.stopReq ≠ .none ∧ turning.shaft.state ≠ .still ∧
      { turning.shaft with stopReq := .quick }.stopReq = .quick) ∧
    ((parking [] 1).shaft.state = .parking ∧ { (parking [] 1).shaft with atRest := true }.atRest = true ∧
      { turning.shaft with state := .coasting }.state = .coasting) ∧
    (turning.shaft.active = some ⟨.stitch 20 0, .fill true, false⟩ ∧ RevKind.stitch 20 0 ≠ .jump ∧
      (awaiting .jump).shaft.active.map (·.kind) = some .jump) :=
  ⟨⟨⟨rfl, rfl⟩, ⟨rfl, rfl⟩, ⟨rfl, rfl⟩, ⟨rfl, rfl⟩⟩, by decide +kernel⟩

theorem witness_StopRequests :
    (ready.served ∧ turning.served ∧ stopped.served ∧ stopped.conditionsSound) ∧
    (ready.run.state = .idle ∧ ready.stopLine = false ∧ ready.shaft.active = none) ∧
    (turning.run.state = .running ∧ turning.shaft.state = .turning ∧ turning.shaft.stopReq = .none ∧
      turning.shaft.atRest = false ∧ turning.stopLine = false) ∧
    (stopped.run.state = .stopped ∧ stopped.shaft.active = none) ∧
    (inBand stopped.config 1008 = true ∧ inBand stopped.config 1007 = false) :=
  ⟨⟨⟨rfl, rfl⟩, ⟨rfl, rfl⟩, ⟨rfl, rfl⟩, by unfold State.conditionsSound; decide +kernel⟩, by decide +kernel⟩

/-- A held run with a STITCH pending completion, one with a cut JUMP in progress at rest, each with its stop line
inactive; a stop line active already; a run that is not held; a shaft at rest whose move is still in flight. -/
theorem witness_StopRequests_held :
    let pends (k : RevKind) (r : RunState) : State := { stopped with
      run := { stopped.run with state := r }
      shaft := { stopped.shaft with active := some ⟨k, .fill true, false⟩, pendingFlag := decide (k ≠ .jump) } }
    ((pends (.stitch 20 0) .stopped).served ∧ (pends .jump .halted).served) ∧
    ((pends (.stitch 20 0) .stopped).shaft.active = some ⟨.stitch 20 0, .fill true, false⟩ ∧
      RevKind.stitch 20 0 ≠ .jump ∧ (pends (.stitch 20 0) .stopped).shaft.pendingFlag = true) ∧
    ((pends .jump .halted).shaft.state = .still ∧ (pends .jump .halted).shaft.atRest = true ∧
      (pends .jump .halted).frame.state.isMoving = false ∧
      (pends .jump .halted).shaft.active = some ⟨.jump, .fill true, false⟩ ∧ (pends .jump .halted).run.state = .halted) ∧
    ((pends .trim .stopped).stopLine = false ∧ ({ pends .trim .stopped with stopLine := true } : State).stopLine = true) ∧
    (ready.run.state ≠ .stopped ∧ ready.run.state ≠ .halted) ∧
    ((arriving .sewing []).frame.state.isMoving = true ∧ (arriving .sewing []).shaft.state = .still ∧
      (arriving .sewing []).shaft.atRest = true ∧ (arriving .sewing []).run.state = .running) :=
  ⟨⟨⟨rfl, rfl⟩, ⟨rfl, rfl⟩⟩, by decide +kernel⟩

/-- A walk in `stopped`'s run that has read design 0's records, standing over or waiting for the record at `p`. -/
def walking (dir : WalkDir) (p : Position) (moving : Bool) : State :=
  let w : Walk := { dir := dir, count := 2, done := 0, held := none, want := some p }
  { stopped with
    run := { stopped.run with state := .backing, frontier := 4 }
    feed := { activity := .walking, blocked := false, fetch := p }
    frame := if moving then { stopped.frame with state := .moving ⟨.trace, ⟨0, 0⟩, ⟨0, -60⟩, 12000, 9⟩ } else stopped.frame
    burst := if moving then none else some ⟨.feed, 0, 0, 3, [], false⟩
    walk := some (if moving then { w with done := 1, want := none, held := some ⟨0, 0, [0x00001400, 0x0000001E]⟩ } else w) }

/-- BACK above the block start and at it, FORWARD below the frontier and at it; counts 1 and 4095. -/
theorem witness_Walks :
    stopped.served ∧ (stopped.shaft.active = none ∧ stopped.shaft.stopReq = .none) ∧
    (stopped.run.state = .stopped ∧ stopped.haltLine = false ∧ stopped.frame.state.isKnown = true ∧ stopped.atTdc = true ∧
      1 ≤ (half 1 0).toNat ∧ (half 0xFF 0x0F).toNat ≤ 4095 ∧ stopped.run.resume = some (.main 0 2)) ∧
    (stopped.run.ordinal ≠ stopped.run.blockStart ∧ (Position.main 0 2).prev stopped.len = some (.main 0 1)) ∧
    stopped.run.ordinal = { stopped.run with blockStart := 2 }.blockStart ∧
    (stopped.run.ordinal = stopped.run.frontier ∧ stopped.run.ordinal ≠ { stopped.run with frontier := 3 }.frontier) :=
  ⟨⟨rfl, rfl⟩, by decide +kernel⟩

/-- The burst arrives for the record wanted, each of them legal; the design's first record and none before it. -/
theorem witness_Walks_burst :
    let s := walking .backward (.main 0 1) false
    s.shaft.active = none ∧ s.shaft.stopReq = .none ∧ s.run.state = .backing ∧ s.feed.activity = .walking ∧
    s.walk.bind (·.want) = some (.main 0 1) ∧ s.frame.state = .known ⟨400, 500⟩ ∧
    s.burst = some ⟨.feed, 0, 0, 3, [], false⟩ ∧ regionInside 0 0 3 = true ∧
    decodeRecord (readPlace s.store 1) = some (.stitch 0 30) ∧ decodeRecord (readPlace s.store 2) = some .endRec ∧
    (Position.main 0 0).prev s.len = none ∧ decodeRecord 0x40030002 = some (.call 3 3) ∧
    decodeRecord 0x00000000 = some (.stitch 0 0) ∧ decodeRecord 0x50000000 = some .pause := by decide +kernel

/-- A trace move in flight, its records held; the next record held and one past them; the count reached; a stop. -/
theorem witness_Walks_move :
    let s := walking .backward (.main 0 1) true
    s.run.state = .backing ∧ s.frame.state = .moving ⟨.trace, ⟨0, 0⟩, ⟨0, -60⟩, 12000, 9⟩ ∧ s.frame.followOn = none ∧
    s.walk = some ⟨.backward, 2, 1, some ⟨0, 0, [0x00001400, 0x0000001E]⟩, none⟩ ∧ s.run.resume = some (.main 0 2) ∧
    s.run.pendingStop = false ∧ { s.run with pendingStop := true }.pendingStop = true ∧ (1 : Nat) ≠ 2 ∧
    s.run.ordinal ≠ s.run.blockStart ∧ (Position.main 0 2).prev s.len = some (.main 0 1) ∧
    ([0x00001400, 0x0000001E] : List Word)[1 - 0]? = some 0x0000001E ∧
    decodeRecord 0x0000001E = some (.stitch 0 30) ∧
    (0 + ([0x00001400, 0x0000001E] : List Word).length ≤ (Position.main 0 2).inner.index) ∧
    (s.frame.state.isMoving = true ∧ s.stopLine = false ∧
      (walking .backward (.main 0 1) false).frame.state.isMoving = false) := by decide +kernel

theorem witness_HaltLineRefuses :
    ({ stopped with haltLine := true } : State).served ∧ ({ stopped with haltLine := true } : State).haltLine = true ∧
    (stopped.run.state ≠ .running ∧ stopped.run.state ≠ .stopping ∧ stopped.shaft.active = none) ∧
    stopped.haltLine = false := ⟨⟨rfl, rfl⟩, rfl, by decide +kernel, rfl⟩

/-- Two entries: an OPEN one that is older, a HELD one; acknowledged and cleared they pass through each state. -/
def conditioned : State :=
  (((ready.openCause (.threadLoose 2) none .none none).openCause .frameLimit none .none none).acknowledge
    .frameLimit).openCause .shaftStall none .none none

theorem witness_ConditionTransitions :
    conditioned.conditionsSound ∧ conditioned.condition? .recordFault = none ∧
    ((conditioned.condition? (.threadLoose 2)).map (·.state) = some .opened ∧
      (conditioned.condition? .frameLimit).map (·.state) = some .held ∧
      ((conditioned.clearCause (.threadLoose 2)).condition? (.threadLoose 2)).map (·.state) = some .cleared) := by
  refine ⟨by unfold State.conditionsSound; decide +kernel, by decide +kernel⟩

theorem witness_ConditionRequests :
    (conditioned.served ∧ ready.served) ∧ (∀ c ∈ ready.conditions, c.state = .held) ∧
    (conditioned.conditions[2]?.map (fun c => (c.key, c.state)) = some (.shaftStall, .opened) ∧
      ∀ c ∈ conditioned.conditions, c.state ≠ .held → Key.shaftStall.severity < c.key.severity ∨ c.key = .shaftStall) ∧
    (40 < (41 : Byte).toNat ∧ (40 : Byte).toNat ≤ 40) := ⟨⟨⟨rfl, rfl⟩, ⟨rfl, rfl⟩⟩, by decide +kernel⟩

theorem witness_AckConditionRule :
    conditioned.served ∧ conditioned.conditionsSound ∧
    ((0 : Byte).toNat < 1 ∧ 8 < (9 : Byte).toNat) ∧ (1 ≤ (5 : Byte).toNat ∧ (5 : Byte).toNat ≤ 5 ∧ (1 : Byte).toNat ≠ 0) ∧
    (6 ≤ (6 : Byte).toNat ∧ (8 : Byte).toNat ≤ 8 ∧ (0 : Byte).toNat < 1 ∧ 12 < (13 : Byte).toNat) ∧
    (1 ≤ (12 : Byte).toNat ∧ (12 : Byte).toNat ≤ 12) ∧ conditioned.condition? .recordFault = none ∧
    ((conditioned.condition? .frameLimit).map (·.state) = some .held) := by
  refine ⟨⟨rfl, rfl⟩, by unfold State.conditionsSound; decide +kernel, by decide +kernel⟩

/-- A STOPPED run meets the premise of every invariant, and a step from it answers next. -/
theorem witness_StepKeeps :
    stopped.storeCanonical ∧ stopped.conditionsSound ∧ stopped.speedSound ∧ stopped.heldSound ∧ stopped.ordinalsSound ∧
    ∃ t, step { stopped with pending := [.back [1, 0]] } = .next t := by
  unfold State.storeCanonical State.conditionsSound State.speedSound State.heldSound State.ordinalsSound
  exact ⟨by decide +kernel, by decide +kernel, by decide +kernel, by decide +kernel,
    ⟨by decide, by decide, by decide, nofun⟩, ⟨_, rfl⟩⟩

/-- The halt line active with a run HALTED, and a step. -/
theorem witness_StepKeepsHaltHolds :
    let s : State := { stopped with haltLine := true, run := { stopped.run with state := .halted } }
    s.heldSound ∧ s.haltHolds ∧ s.haltLine = true ∧ ∃ t, step s = .next t := by
  refine ⟨?_, ?_, rfl, ⟨_, rfl⟩⟩
  · unfold State.heldSound
    decide +kernel
  · unfold State.haltHolds
    decide +kernel

/-- ABORT takes a STOPPED run to IDLE. -/
theorem witness_HoldSetsRunChange :
    let s : State := { stopped with pending := [.abort []] }
    s.pending.head? ≠ some .powerOn ∧ s.pending.head? ≠ some .resetPin ∧
    (match step s with
     | .next t => decide (t.run.state ≠ s.run.state ∧ t.run.state = .idle)
     | .fault _ => false
     | .refused _ => false) = true := by decide +kernel

end Sys2Proof.Tests
end

section
/-! PROOFS. The requests on the design table: RETIRE, LOCK and UNLOCK (R17 to R19). -/

namespace Sys2Proof.Machine

variable {s : State} {d : Design} {b : Byte} {x : DesignBody} {cursor : Nat} {net : Option Point}

/-! ## A request whose only argument is a design number (R17) -/

theorem designOf_eq_none (h : 32 ≤ b.toNat) : designOf b = none := dif_neg (Nat.not_lt.2 h)

theorem State.oneDesign_of_designOf {code : Byte} {act : Design → State → State} (h : designOf b = some d) :
    s.oneDesign code [b] act = act d s := by
  simp [State.oneDesign, h]

theorem State.oneDesign_badArgument {code : Byte} {act : Design → State → State} (h : 32 ≤ b.toNat) :
    s.oneDesign code [b] act = s.reply code .badArgument .empty := by
  simp [State.oneDesign, designOf_eq_none h, State.refuse]

/-! ## The checks on a READY descriptor, with others behind them -/

theorem firstRefusal_readyChecks_empty (h : s.designs.get d = .empty) (more : List (Bool × Status)) :
    firstRefusal (s.readyChecks d ++ more) = some .notFound := by
  simp [State.readyChecks, firstRefusal, h]

theorem firstRefusal_readyChecks_loading (h : s.designs.get d = .loading x cursor) (more : List (Bool × Status)) :
    firstRefusal (s.readyChecks d ++ more) = some .loadActive := by
  simp [State.readyChecks, firstRefusal, Descriptor.isLoading, h]

theorem firstRefusal_readyChecks_ready (h : s.designs.get d = .ready x net) (more : List (Bool × Status)) :
    firstRefusal (s.readyChecks d ++ more) = firstRefusal more := by
  simp [State.readyChecks, firstRefusal, Descriptor.isLoading, h]

/-! ## RETIRE (R18) -/

theorem exec_retire_served (hs : s.served) (p : List Byte) :
    exec (.retire p) s = .next (s.oneDesign 0x15 p State.retireFor) :=
  congrArg Host.Outcome.next (State.takeFrame_served _ _ s hs)

theorem State.retireFor_empty (h : s.designs.get d = .empty) : s.retireFor d = s.reply 0x15 .notFound .empty :=
  State.checked_refused _ _ _ _ _ (firstRefusal_readyChecks_empty h _)

theorem State.retireFor_loading (h : s.designs.get d = .loading x cursor) :
    s.retireFor d = s.reply 0x15 .loadActive .empty :=
  State.checked_refused _ _ _ _ _ (firstRefusal_readyChecks_loading h _)

/-- A READY descriptor is retired unless it is in use or, checked behind that, LOCKED. -/
theorem State.retireFor_ready (h : s.designs.get d = .ready x net) :
    s.retireFor d =
      if d ∈ s.run.visited then s.reply 0x15 .inUse .empty
      else if x.attrs.locked = true then s.reply 0x15 .locked .empty
      else (s.setDesign d .empty).reply 0x15 .ok .empty := by
  unfold State.retireFor State.checked
  rw [firstRefusal_readyChecks_ready h, h]
  by_cases hv : d ∈ s.run.visited
  · simp [firstRefusal, State.visits, hv, State.refuse]
  · cases hl : x.attrs.locked <;>
      simp [firstRefusal, State.visits, hv, Descriptor.attributes, Descriptor.body?, hl, State.refuse]

/-- The feed finds a motif absent whose descriptor is EMPTY (R62). -/
theorem State.callFailure_empty (h : s.designs.get d = .empty) (p : Position) :
    s.callFailure p d = some .motifAbsent := by
  simp [State.callFailure, h, Descriptor.isReady]

/-- With its checks passed RETIRE empties the descriptor, and a CALL to the design fails from then on. -/
theorem State.retireFor_accepted (h : s.designs.get d = .ready x net) (hv : d ∉ s.run.visited)
    (hl : x.attrs.locked = false) :
    s.retireFor d = { s with designs := s.designs.set d .empty, link := s.link.place ⟨0x15, .ok, .empty⟩ } ∧
      ∀ p, (s.retireFor d).callFailure p d = some .motifAbsent := by
  rw [State.retireFor_ready h, if_neg hv, if_neg (by simp [hl])]
  exact ⟨rfl, State.callFailure_empty (Table.get_set_self _ _ _)⟩

/-! ## LOCK and UNLOCK (R19) -/

theorem exec_lock_served (hs : s.served) (p : List Byte) :
    exec (.lock p) s = .next (s.oneDesign 0x16 p (State.lockFor 0x16 true)) :=
  congrArg Host.Outcome.next (State.takeFrame_served _ _ s hs)

theorem exec_unlock_served (hs : s.served) (p : List Byte) :
    exec (.unlock p) s = .next (s.oneDesign 0x17 p (State.lockFor 0x17 false)) :=
  congrArg Host.Outcome.next (State.takeFrame_served _ _ s hs)

variable (code : Byte) (v : Bool)

theorem State.lockFor_empty (h : s.designs.get d = .empty) : s.lockFor code v d = s.reply code .notFound .empty :=
  State.checked_refused _ _ _ _ _ (firstRefusal_readyChecks_empty h [])

theorem State.lockFor_loading (h : s.designs.get d = .loading x cursor) :
    s.lockFor code v d = s.reply code .loadActive .empty :=
  State.checked_refused _ _ _ _ _ (firstRefusal_readyChecks_loading h [])

theorem State.lockFor_ready (h : s.designs.get d = .ready x net) :
    s.lockFor code v d =
      (s.setDesign d (.ready { x with attrs := { x.attrs with locked := v } } net)).reply code .ok
        (.attributes { x.attrs with locked := v }) := by
  unfold State.lockFor
  have passed : firstRefusal (s.readyChecks d) = none := firstRefusal_readyChecks_ready h []
  rw [State.checked_passed _ _ _ _ passed, h]
  rfl

end Sys2Proof.Machine

namespace Sys2Proof.Proofs

open Sys2Proof.Machine

/-- Settles O20: the request is its design's case, and there the descriptor's state, and for RETIRE the visited set
and the LOCKED mark, decide which check refuses first. -/
theorem retireLockRules : Obligations.RetireLockRules := by
  constructor
  · intro s b hs
    rw [exec_retire_served hs]
    refine ⟨fun hb => by rw [State.oneDesign_badArgument hb], fun d hb => ?_⟩
    rw [State.oneDesign_of_designOf hb]
    refine ⟨fun he => by rw [State.retireFor_empty he], fun x c hl => by rw [State.retireFor_loading hl],
      fun x n hr => ⟨fun hv => ?_, fun hv hk => ?_, fun hv hk => ?_⟩⟩
    · rw [State.retireFor_ready hr, if_pos hv]
    · rw [State.retireFor_ready hr, if_neg hv, if_pos hk]
    · exact ⟨_, rfl, State.retireFor_accepted hr hv hk⟩
  · intro s b hs
    rw [exec_lock_served hs, exec_unlock_served hs]
    refine ⟨fun hb => by simp only [State.oneDesign_badArgument hb, and_self], fun d hb => ?_⟩
    rw [State.oneDesign_of_designOf hb, State.oneDesign_of_designOf hb]
    refine ⟨fun he => ?_, fun x c hl => ?_, fun x n hr => ?_⟩
    · simp only [State.lockFor_empty _ _ he, and_self]
    · simp only [State.lockFor_loading _ _ hl, and_self]
    · rw [State.lockFor_ready _ _ hr, State.lockFor_ready _ _ hr]
      exact ⟨rfl, rfl⟩

end Sys2Proof.Proofs
end

section
/-! PROOFS. The arbiter: the claims, the grant decision and the burst it grants (R41 to R45). -/

namespace Sys2Proof.Machine

variable {s : State} {c : Claimant}

/-! ## The claims (R42, R59, R68) -/

/-- A HOLDING buffer is the older one unless the other buffer is HOLDING and was filled earlier (R28). -/
theorem LoadContext.older_eq_some_iff {x : LoadContext} {q : Staging} :
    x.older = some q ↔
      x.buffer0 = some q ∧ (x.buffer1 = none ∨ x.olderIs1 = false) ∨
        x.buffer1 = some q ∧ (x.buffer0 = none ∨ x.olderIs1 = true) := by
  unfold LoadContext.older
  cases x.olderIs1 <;> simp [Option.or_eq_some_iff] <;> tauto

theorem LoadContext.isSome_older {x : LoadContext} :
    x.older.isSome = true ↔ x.buffer0 ≠ none ∨ x.buffer1 ≠ none := by
  unfold LoadContext.older
  split <;> simp [Option.isSome_or, Option.isSome_iff_ne_none, or_comm]

theorem State.inFlight_iff :
    s.inFlight c = true ↔ ∃ b, s.burst = some b ∧ b.claimant = c ∧ b.stale = false := by
  unfold State.inFlight
  split <;> simp [*]

/-- While no burst is stale, the burst in flight of a claimant is one for work that has not ended. -/
theorem State.inFlight_iff_of_fresh (fresh : ∀ b, s.burst = some b → b.stale = false) :
    s.inFlight c = true ↔ ∃ b, s.burst = some b ∧ b.claimant = c :=
  State.inFlight_iff.trans
    ⟨fun ⟨b, hb, hc, _⟩ => ⟨b, hb, hc⟩, fun ⟨b, hb, hc⟩ => ⟨b, hb, hc, fresh b hb⟩⟩

theorem State.claims_loader_iff :
    s.claims .loader = true ↔
      ¬s.inFlight .loader = true ∧ ∃ x, s.load = some x ∧ (x.buffer0 ≠ none ∨ x.buffer1 ≠ none) := by
  simp only [State.claims, Bool.and_eq_true, Bool.not_eq_true', Bool.not_eq_true]
  refine and_congr_right fun _ => ?_
  cases s.load with
  | none => simp
  | some x => simp [LoadContext.isSome_older]

theorem State.claims_readback_iff :
    s.claims .readback = true ↔
      ¬s.inFlight .readback = true ∧ ∃ r, s.link.readBack = some r ∧ r.got.length < r.count := by
  simp only [State.claims, Bool.and_eq_true, Bool.not_eq_true', Bool.not_eq_true]
  refine and_congr_right fun _ => ?_
  cases s.link.readBack <;> simp

theorem State.claims_feed_iff :
    s.claims .feed = true ↔
      ¬s.inFlight .feed = true ∧
        (s.feed.activity = .filling ∧ s.feed.blocked = false ∧ s.queue.length ≤ 8 ∨
          s.feed.activity = .walking ∧ ∃ w, s.walk = some w ∧ w.want ≠ none) := by
  simp only [State.claims, Bool.and_eq_true, Bool.not_eq_true', Bool.not_eq_true]
  refine and_congr_right fun _ => ?_
  cases s.feed.activity with
  | idle => simp
  | finished => simp
  | filling =>
    simp only [Bool.and_eq_true, Bool.not_eq_true', decide_eq_true_eq]
    simp [Config.feedLevel]
  | walking => cases s.walk <;> simp [Option.isSome_iff_ne_none]

/-! ## The winner (R44, R45) -/

theorem State.urgent_iff : s.urgent = true ↔ s.run.state ≠ .idle ∧ s.queue.length < 4 := by
  simp [State.urgent, State.runExists]

theorem State.winner_of_urgent (hc : s.claims .feed = true) (hu : s.urgent = true) : s.winner = some .feed := by
  simp [State.winner, hc, hu]

theorem State.winner_of_not_urgent (h : s.claims .feed = false ∨ s.urgent = false) : s.winner = s.modeWinner := by
  rcases h with h | h <;> simp [State.winner, h]

/-- The claimants in the order in which the mode lets them win. -/
def State.turns (s : State) : List Claimant :=
  match s.config.arbiterMode, s.lastGranted with
  | .feedFirst, _ => [.feed, .loader, .readback]
  | .loaderFirst, _ => [.loader, .feed, .readback]
  | .rotate, .feed => [.loader, .readback, .feed]
  | .rotate, .loader => [.readback, .feed, .loader]
  | .rotate, .readback => [.feed, .loader, .readback]

theorem State.modeWinner_eq_find (s : State) : s.modeWinner = s.turns.find? s.claims := by
  unfold State.modeWinner State.turns
  cases s.config.arbiterMode with
  | feedFirst => rfl
  | loaderFirst => rfl
  | rotate => cases s.lastGranted <;> rfl

/-- Every claimant has its turn in every mode. -/
theorem State.mem_turns (s : State) (c : Claimant) : c ∈ s.turns := by
  unfold State.turns
  split <;> cases c <;> decide

theorem State.find_claims_three (s : State) (a b c : Claimant) :
    [a, b, c].find? s.claims =
      if s.claims a then some a else if s.claims b then some b else if s.claims c then some c else none := by
  cases ha : s.claims a <;> cases hb : s.claims b <;> cases hc : s.claims c <;> simp [ha, hb, hc]

/-- A claimant alone in waiting is the first of any order to wait. -/
theorem State.modeWinner_of_lone (hc : s.claims c = true) (lone : ∀ e, s.claims e = true → e = c) :
    s.modeWinner = some c := by
  rw [State.modeWinner_eq_find]
  cases found : s.turns.find? s.claims with
  | none => exact absurd hc (List.find?_eq_none.1 found c (s.mem_turns c))
  | some e => rw [lone e (List.find?_some found)]

theorem State.winner_of_lone (hc : s.claims c = true) (lone : ∀ e, s.claims e = true → e = c) :
    s.winner = some c := by
  by_cases h : s.claims .feed = true ∧ s.urgent = true
  · obtain ⟨hf, hu⟩ := h
    rw [State.winner_of_urgent hf hu, lone _ hf]
  · have calm : s.claims .feed = false ∨ s.urgent = false := by
      simpa only [not_and_or, Bool.not_eq_true] using h
    rw [State.winner_of_not_urgent calm, State.modeWinner_of_lone hc lone]

/-! ## The grant (R43, R44) -/

theorem State.arbitrate_of_busy {b : Burst} (h : s.burst = some b) : s.arbitrate = s := by
  simp [State.arbitrate, h]

theorem State.arbitrate_of_winner {b : Burst} (free : s.burst = none) (hw : s.winner = some c)
    (hb : s.burstFor c = some b) : s.arbitrate = { s with burst := some b, lastGranted := c } := by
  simp [State.arbitrate, free, hw, hb]

/-! ## The burst granted (R28, R38, R41, R59, R68) -/

theorem Descriptor.base_of_body {d : Descriptor} {x : DesignBody} (h : d.body? = some x) : d.base = x.base := by
  simp [Descriptor.base, h]

theorem Descriptor.length_of_body {d : Descriptor} {x : DesignBody} (h : d.body? = some x) :
    d.length = x.length := by
  simp [Descriptor.length, h]

/-- The records from the index on run to the main design's END, or to the record before a motif's (R59). -/
theorem State.available_of_body {p : Position} {x : DesignBody}
    (h : (s.designs.get p.inner.design).body? = some x) :
    p.available s.len =
      if p.callers = [] then x.length - p.inner.index else x.length - 1 - p.inner.index := by
  unfold Position.available State.len
  rw [Descriptor.length_of_body h]
  cases p.callers <;> simp

theorem State.burstFor_loader {l : LoadContext} {q : Staging} {x : DesignBody} (hl : s.load = some l)
    (hx : (s.designs.get l.design).body? = some x) (hq : l.older = some q) :
    s.burstFor .loader = some
      { claimant := .loader, base := x.base, first := q.first + q.written
        count := min 8 (q.records.length - q.written), records := (q.records.drop q.written).take 8
        stale := false } := by
  simp [State.burstFor, hl, hq, Descriptor.base_of_body hx, Config.burstMax]

theorem State.burstFor_readback {r : ReadBack} {x : DesignBody} (hr : s.link.readBack = some r)
    (hx : (s.designs.get r.design).body? = some x) :
    s.burstFor .readback = some
      { claimant := .readback, base := x.base, first := r.index + r.got.length
        count := min 8 (r.count - r.got.length), records := [], stale := false } := by
  simp [State.burstFor, hr, Descriptor.base_of_body hx, Config.burstMax]

section Feed

variable {p : Position} {w : Walk} {x : DesignBody} (hx : (s.designs.get p.inner.design).body? = some x)

include hx

theorem State.burstFor_filling (ha : s.feed.activity = .filling) (hp : s.feed.fetch = p) :
    s.burstFor .feed = some
      { claimant := .feed, base := x.base, first := p.inner.index, count := min 8 (p.available s.len)
        records := [], stale := false } := by
  simp [State.burstFor, ha, hp, Descriptor.base_of_body hx, Config.burstMax]

theorem State.burstFor_walk_forward (ha : s.feed.activity = .walking) (hw : s.walk = some w)
    (hp : w.want = some p) (hd : w.dir = .forward) :
    s.burstFor .feed = some
      { claimant := .feed, base := x.base, first := p.inner.index, count := min 8 (p.available s.len)
        records := [], stale := false } := by
  simp [State.burstFor, ha, hw, hp, hd, Descriptor.base_of_body hx, Config.burstMax]

theorem State.burstFor_walk_backward (ha : s.feed.activity = .walking) (hw : s.walk = some w)
    (hp : w.want = some p) (hd : w.dir = .backward) :
    s.burstFor .feed = some
      { claimant := .feed, base := x.base, first := p.inner.index - 7
        count := p.inner.index + 1 - (p.inner.index - 7), records := [], stale := false } := by
  simp [State.burstFor, ha, hw, hp, hd, Descriptor.base_of_body hx, Config.burstMax]

end Feed

end Sys2Proof.Machine

namespace Sys2Proof.Proofs

open Sys2Proof.Machine

/-- Settles O21: a claim waits by its source alone while no burst is stale; the mode's choice is the first waiting
claimant of its order, which a lone one is in every order; each burst is read off the work of its claimant. -/
theorem arbiterTable : Obligations.ArbiterTable := by
  intro s first
  refine ⟨fun fresh => ?claims, State.winner_of_urgent, fun calm => ?mode, fun c => State.winner_of_lone,
    State.urgent_iff, fun b => State.arbitrate_of_busy, fun c b => State.arbitrate_of_winner,
    fun c q x hl hx hq => State.burstFor_loader hl hx (LoadContext.older_eq_some_iff.2 hq),
    fun r x => State.burstFor_readback, fun p x hx => ?feed⟩
  case claims =>
    simp only [← State.inFlight_iff_of_fresh fresh]
    exact ⟨State.claims_loader_iff, State.claims_readback_iff, State.claims_feed_iff⟩
  case mode =>
    rw [State.winner_of_not_urgent calm, State.modeWinner_eq_find]
    have order (a b c : Claimant) : [a, b, c].find? s.claims = first a b c := s.find_claims_three a b c
    refine ⟨fun hm => ?_, fun hm => ?_, fun hm hl => ?_, fun hm hl => ?_, fun hm hl => ?_⟩
    all_goals simp only [State.turns, *]
  case feed =>
    rw [← State.available_of_body hx]
    exact ⟨State.burstFor_filling hx, fun w ha hw hp =>
      ⟨State.burstFor_walk_forward hx ha hw hp, State.burstFor_walk_backward hx ha hw hp⟩⟩

end Sys2Proof.Proofs
end

section
/-! PROOFS. The needle table: the match of a thread code, the selection among the matches, and CLEAR_NEEDLE
(R115, R118, R119). -/

namespace Sys2Proof.Machine

variable {s : State} {n : Needle} {t : Thread} {c : Half} {p : Needle → Bool}

/-! ## The match (R118) -/

/-- The bits of two codes that stand under no mask bit agree. -/
theorem xor_and_not_mask_eq_zero_iff (a b mask : Half) :
    (a ^^^ b) &&& ~~~ mask = 0#16 ↔ ∀ i, i < 16 → mask.getLsbD i = false → a.getLsbD i = b.getLsbD i := by
  rw [BitVec.eq_of_getLsbD_eq_iff]
  refine forall₂_congr fun i hi => ?_
  rw [BitVec.getLsbD_and, BitVec.getLsbD_xor, BitVec.getLsbD_not, BitVec.getLsbD_zero]
  cases mask.getLsbD i with
  | false => simp only [hi, decide_true, Bool.not_false, Bool.and_true, bne_eq_false_iff_eq, forall_const]
  | true => simp

theorem Configuration.installed_iff {cfg : Configuration} :
    cfg.installed n = true ↔ n.val + 1 ≤ cfg.needlesInstalled := by
  simp [Configuration.installed, needleNumber]

theorem State.codeEquals_iff :
    s.codeEquals c n = true ↔
      ∃ t, ((s.needles.get n).thread = some t ∧ n.val + 1 ≤ s.config.needlesInstalled) ∧ t.code = c := by
  unfold State.codeEquals
  cases (s.needles.get n).thread <;> simp [Configuration.installed_iff]

theorem State.entryMatches_of_thread (h : (s.needles.get n).thread = some t) :
    s.entryMatches c n = true ↔
      n.val + 1 ≤ s.config.needlesInstalled ∧ (t.code ^^^ c) &&& ~~~ t.mask = 0#16 := by
  simp [State.entryMatches, h, Configuration.installed_iff]

theorem State.entryMatches_of_mask_zero (h : (s.needles.get n).thread = some t)
    (installed : n.val + 1 ≤ s.config.needlesInstalled) (hm : t.mask = 0#16) :
    s.entryMatches c n = true ↔ t.code = c := by
  rw [State.entryMatches_of_thread h, and_iff_right installed, hm, BitVec.not_zero, BitVec.and_allOnes,
    BitVec.xor_eq_zero_iff]

theorem State.entryMatches_of_mask_allOnes (h : (s.needles.get n).thread = some t)
    (installed : n.val + 1 ≤ s.config.needlesInstalled) (hm : t.mask = BitVec.allOnes 16) :
    s.entryMatches c n = true := by
  rw [State.entryMatches_of_thread h, and_iff_right installed, hm, BitVec.not_allOnes, BitVec.and_zero]

theorem State.entryMatches_of_not_valid (h : (s.needles.get n).thread = none) : s.entryMatches c n = false := by
  simp [State.entryMatches, h]

theorem State.entryMatches_iff :
    s.entryMatches c n = true ↔
      ∃ t, ((s.needles.get n).thread = some t ∧ n.val + 1 ≤ s.config.needlesInstalled) ∧
        ∀ i, i < 16 → t.mask.getLsbD i = false → t.code.getLsbD i = c.getLsbD i := by
  cases h : (s.needles.get n).thread with
  | none => simp [State.entryMatches_of_not_valid h]
  | some t => simp [State.entryMatches_of_thread h, xor_and_not_mask_eq_zero_iff]

/-! ## The needles that pass a test -/

theorem nodup_allNeedles : allNeedles.Nodup := by decide

theorem mem_allNeedles (n : Needle) : n ∈ allNeedles := by revert n; decide

theorem mem_filter_allNeedles : n ∈ allNeedles.filter p ↔ p n = true := by
  simp [mem_allNeedles]

theorem filter_allNeedles_eq_singleton_iff :
    allNeedles.filter p = [n] ↔ p n = true ∧ ∀ m, p m = true → m = n := by
  rw [← List.perm_singleton,
    List.perm_ext_iff_of_nodup (nodup_allNeedles.filter p) (List.nodup_singleton n)]
  simp only [mem_filter_allNeedles, List.mem_singleton]
  exact ⟨fun h => ⟨(h n).2 rfl, fun m => (h m).1⟩, fun ⟨hn, lone⟩ m => ⟨lone m, fun e => e ▸ hn⟩⟩

/-! ## The selection (R118, R119) -/

theorem selectAmong_of_lone (hn : p n = true) (lone : ∀ m, p m = true → m = n) :
    selectAmong (allNeedles.filter p) = .needle n := by
  rw [filter_allNeedles_eq_singleton_iff.2 ⟨hn, lone⟩]
  rfl

theorem selectAmong_of_none (h : ∀ m, ¬p m = true) : selectAmong (allNeedles.filter p) = .unmatched .none := by
  rw [List.filter_eq_nil_iff.2 fun m _ => h m]
  rfl

theorem selectAmong_of_two {m : Needle} (hn : p n = true) (hm : p m = true) (hne : n ≠ m) :
    selectAmong (allNeedles.filter p) = .unmatched .ambiguous := by
  match passing : allNeedles.filter p with
  | [] => exact absurd hn (List.filter_eq_nil_iff.1 passing n (mem_allNeedles n))
  | [k] =>
    obtain ⟨-, lone⟩ := filter_allNeedles_eq_singleton_iff.1 passing
    exact absurd ((lone n hn).trans (lone m hm).symm) hne
  | _ :: _ :: _ => rfl

/-- Step 1: the one entry whose code is equal. -/
theorem State.select_of_lone_equal (hn : s.codeEquals c n = true) (lone : ∀ m, s.codeEquals c m = true → m = n) :
    s.select c = .needle n := by
  simp [State.select, filter_allNeedles_eq_singleton_iff.2 ⟨hn, lone⟩]

/-- Without one such entry alone the steps behind it decide. -/
theorem State.select_of_not_lone_equal
    (h : ∀ n, s.codeEquals c n = true → ∃ m, s.codeEquals c m = true ∧ m ≠ n) :
    s.select c = s.selectMatching c := by
  unfold State.select
  split
  · rename_i k single
    obtain ⟨hk, lone⟩ := filter_allNeedles_eq_singleton_iff.1 single
    obtain ⟨m, hm, hne⟩ := h k hk
    exact absurd (lone m hm) hne
  · rfl
  · rfl

/-- Step 2: the current needle when its entry matches. -/
theorem State.selectMatching_of_current (hc : s.run.needle = some n) (hn : s.entryMatches c n = true) :
    s.selectMatching c = .needle n := by
  simp [State.selectMatching, hc, hn]

/-- Without a current needle that matches, step 3 decides. -/
theorem State.selectMatching_of_not_current (h : ∀ n, s.run.needle = some n → ¬s.entryMatches c n = true) :
    s.selectMatching c = selectAmong (allNeedles.filter (s.entryMatches c)) := by
  unfold State.selectMatching
  cases hc : s.run.needle with
  | none => rfl
  | some n => exact if_neg (h n hc)

/-! ## CLEAR_NEEDLE (R115) -/

theorem exec_clearNeedle_served (hs : s.served) (p : List Byte) :
    exec (.clearNeedle p) s = .next (performClearNeedle p s) :=
  congrArg Host.Outcome.next (State.takeFrame_served _ _ s hs)

theorem performClearNeedle_of_needleOf {b : Byte} (h : needleOf s.config b = some n) :
    performClearNeedle [b] s = s.clearNeedleFor n := by
  simp [performClearNeedle, h]

theorem State.needleInUse_iff : s.needleInUse n = true ↔ s.run.state ≠ .idle ∧ s.run.needle = some n := by
  simp [State.needleInUse, State.runExists]

theorem State.clearNeedleFor_inUse (h : s.needleInUse n = true) :
    s.clearNeedleFor n = s.reply 0x41 .inUse .empty :=
  State.checked_refused _ _ _ _ _ (by simp [firstRefusal, h])

theorem State.clearNeedleFor_not_inUse (h : ¬s.needleInUse n = true) :
    s.clearNeedleFor n = (s.setThread n none).reply 0x41 .ok .empty :=
  State.checked_passed _ _ _ _ (by simp [firstRefusal, h])

theorem State.entryMatches_setThread_none : (s.setThread n none).entryMatches c n = false :=
  State.entryMatches_of_not_valid (by simp [State.setThread])

/-- The thread that the entry has already changes no entry. -/
theorem State.setThread_needles_of_same {x : Option Thread} (h : (s.needles.get n).thread = x) :
    (s.setThread n x).needles = s.needles := by
  subst h
  refine Table.ext_get fun i => ?_
  simp only [State.setThread, Table.get_set]
  split
  · next e => rw [e]
  · rfl

end Sys2Proof.Machine

namespace Sys2Proof.Proofs

open Sys2Proof.Machine

/-- Settles O38: the match is equality of the bits that the mask leaves, and each step of the selection is the case
of the list of needles that pass its test: one, none, or two and more. -/
theorem selectionOrder : Obligations.SelectionOrder := by
  intro s c entry equal fits
  have equal_iff (n : Needle) : equal n ↔ s.codeEquals c n = true := State.codeEquals_iff.symm
  have fits_iff (n : Needle) : fits n ↔ s.entryMatches c n = true := State.entryMatches_iff.symm
  refine ⟨fun n => (fits_iff n).symm, fun n t ⟨ht, installed⟩ =>
    ⟨State.entryMatches_of_mask_zero ht installed, State.entryMatches_of_mask_allOnes ht installed⟩, ?_⟩
  simp only [equal_iff, fits_iff]
  refine ⟨fun n => State.select_of_lone_equal, fun several => ?_⟩
  rw [State.select_of_not_lone_equal several]
  refine ⟨fun n => State.selectMatching_of_current, fun other => ?_⟩
  rw [State.selectMatching_of_not_current other]
  exact ⟨fun n => selectAmong_of_lone, selectAmong_of_none, fun n m => selectAmong_of_two⟩

/-- Settles O40: the one check asks whether the needle is in use; past it the entry's thread is taken away. -/
theorem clearNeedleRule : Obligations.ClearNeedleRule := by
  intro s b n hs hb
  rw [exec_clearNeedle_served hs, performClearNeedle_of_needleOf hb]
  refine ⟨fun run current => ?inUse, fun unused => ?cleared⟩
  case inUse => rw [State.clearNeedleFor_inUse (State.needleInUse_iff.2 ⟨run, current⟩)]
  case cleared =>
    have free : ¬s.needleInUse n = true := by
      rw [State.needleInUse_iff]
      exact fun ⟨run, current⟩ => unused.elim run (absurd current)
    rw [State.clearNeedleFor_not_inUse free]
    exact ⟨_, rfl, rfl, fun c => State.entryMatches_setThread_none, State.setThread_needles_of_same⟩

end Sys2Proof.Proofs
end

section
/-! PROOFS. The requests on the condition table: NEXT_CONDITION, LIST_CONDITIONS and ACK_CONDITION (R183 to
R185). -/

namespace Sys2Proof.Machine

variable {s : State} {cs : List Condition} {c : Condition} {k : Key} {i j : Nat}

/-! ## The places of the table (R178) -/

theorem getElem?_placed : (placed cs)[i]? = cs[i]?.map (i, ·) := by
  by_cases h : i < cs.length <;> simp [placed, h]

theorem mem_placed : (i, c) ∈ placed cs ↔ cs[i]? = some c := by
  simp [List.mem_iff_getElem?, getElem?_placed]

theorem length_placed : (placed cs).length = cs.length := by
  simp [placed]

theorem placed_map_snd : (placed cs).map Prod.snd = cs := by
  simp [placed, List.map_snd_zip]

theorem pairwise_placed : (placed cs).Pairwise fun a b => a.1 < b.1 := by
  simp [List.pairwise_iff_getElem, placed]

/-! ## The entries not acknowledged (R183) -/

theorem mem_unacked : (i, c) ∈ unacked cs ↔ cs[i]? = some c ∧ c.state ≠ .held := by
  simp [unacked, Condition.unacked, mem_placed]

theorem unacked_eq_nil (h : ∀ c ∈ cs, c.state = .held) : unacked cs = [] :=
  List.eq_nil_iff_forall_not_mem.2 fun _ hc =>
    have ⟨found, unheld⟩ := mem_unacked.1 hc
    unheld (h _ (List.mem_of_getElem? found))

theorem length_unacked : (unacked cs).length = (cs.filter fun c => decide (c.state ≠ .held)).length := by
  rw [← List.countP_eq_length_filter, ← placed_map_snd (cs := cs), List.countP_map,
    List.countP_eq_length_filter, placed_map_snd]
  rfl

theorem pairwise_unacked : (unacked cs).Pairwise fun a b => a.1 < b.1 :=
  pairwise_placed.filter _

/-- In a list that ascends by place the entry of the lower place stands first. -/
theorem idxOf_le_of_place_le {α : Type} [DecidableEq α] {place : α → Nat} {l : List α}
    (ascends : l.Pairwise fun a b => place a < place b) {a b : α} (ha : a ∈ l) (hb : b ∈ l)
    (h : place a ≤ place b) : l.idxOf a ≤ l.idxOf b := by
  by_contra! behind
  have lower := List.pairwise_iff_getElem.1 ascends _ _ (List.idxOf_lt_length_of_mem hb)
    (List.idxOf_lt_length_of_mem ha) behind
  simp only [List.getElem_idxOf] at lower
  omega

/-- The choice of NEXT_CONDITION is the library's first minimum, by severity number. -/
theorem nextEntry_eq_argmin : nextEntry cs = (unacked cs).argmin fun c => c.2.key.severity := by
  have same : moreSevere = List.argAux fun b c => b.2.key.severity < c.2.key.severity := by
    funext best c
    cases best <;> rfl
  rw [nextEntry, same]
  rfl

theorem nextEntry_eq_none (h : ∀ c ∈ cs, c.state = .held) : nextEntry cs = none := by
  rw [nextEntry_eq_argmin, List.argmin_eq_none, unacked_eq_nil h]

theorem nextEntry_eq_some (hc : cs[i]? = some c) (unheld : c.state ≠ .held)
    (first : ∀ (j : Nat) (x : Condition), cs[j]? = some x → x.state ≠ .held →
      c.key.severity < x.key.severity ∨ c.key.severity = x.key.severity ∧ i ≤ j) :
    nextEntry cs = some (i, c) := by
  have hmem : (i, c) ∈ unacked cs := mem_unacked.2 ⟨hc, unheld⟩
  rw [nextEntry_eq_argmin, List.argmin_eq_some_iff]
  refine ⟨hmem, fun (j, x) hx => ?least, fun (j, x) hx tie => ?nearest⟩
  all_goals
    obtain ⟨hj, hx'⟩ := mem_unacked.1 hx
    have := first j x hj hx'
  case least => dsimp only; omega
  case nearest => exact idxOf_le_of_place_le pairwise_unacked hmem hx (by dsimp only at tie ⊢; omega)

/-! ## NEXT_CONDITION (R183) -/

theorem exec_nextCondition_none (hs : s.served) (h : nextEntry s.conditions = none) :
    exec (.nextCondition []) s = .next (s.reply 0x50 .ok (.nextCondition none 0)) := by
  refine congrArg Host.Outcome.next ((State.takeFrame_served _ _ s hs).trans ?_)
  simp [performNextCondition, State.noArgument, h]

theorem exec_nextCondition_some (hs : s.served) (h : nextEntry s.conditions = some (i, c)) :
    exec (.nextCondition []) s = .next ((s.acknowledge c.key).reply 0x50 .ok
      (.nextCondition (some (i, c.report)) ((unacked s.conditions).length - 1))) := by
  refine congrArg Host.Outcome.next ((State.takeFrame_served _ _ s hs).trans ?_)
  simp [performNextCondition, State.noArgument, h, reported]

/-! ## LIST_CONDITIONS (R185) -/

/-- The entries that LIST_CONDITIONS reports from a place on. -/
def listedFrom (cs : List Condition) (first : Nat) : List (Nat × ConditionReport) :=
  (((placed cs).drop first).take 4).map reported

theorem exec_listConditions (hs : s.served) (b : Byte) :
    exec (.listConditions [b]) s = .next
      (if b.toNat ≤ 40 then
        s.reply 0x51 .ok (.conditions s.conditions.length s.changes (listedFrom s.conditions b.toNat))
      else s.reply 0x51 .badArgument .empty) :=
  congrArg Host.Outcome.next (State.takeFrame_served _ _ s hs)

theorem length_listedFrom (cs : List Condition) (first : Nat) :
    (listedFrom cs first).length = min 4 (cs.length - first) := by
  simp [listedFrom, length_placed]

theorem getElem?_listedFrom {first : Nat} {x : Nat × ConditionReport} (h : (listedFrom cs first)[j]? = some x) :
    x.1 = first + j ∧ cs[first + j]?.map Condition.report = some x.2 := by
  obtain ⟨e, he, rfl⟩ : ∃ e, (((placed cs).drop first).take 4)[j]? = some e ∧ reported e = x := by
    simpa only [listedFrom, List.getElem?_map, Option.map_eq_some_iff] using h
  have hj : (placed cs)[first + j]? = some e := by
    rw [List.getElem?_take, Option.ite_none_right_eq_some, List.getElem?_drop] at he
    exact he.2
  rw [getElem?_placed, Option.map_eq_some_iff] at hj
  obtain ⟨c, hc, rfl⟩ := hj
  exact ⟨rfl, by rw [hc]; rfl⟩

/-! ## The key that ACK_CONDITION names (R176, R184) -/

theorem anyHeadOf_eq_some_iff {b : Byte} {h : Head} : anyHeadOf b = some h ↔ headNumber h = b.toNat := by
  have := h.isLt
  unfold anyHeadOf headNumber
  split <;> simp [Fin.ext_iff] <;> omega

/-- The kind and the head name the one key with that code and that head number. -/
theorem keyOf_eq_some_iff {kind head : Byte} :
    keyOf kind head = some k ↔ k.code = kind.toNat ∧ k.headNumber = head.toNat := by
  have zero_iff : head = 0 ↔ 0 = head.toNat := by rw [eq_comm, ← BitVec.toNat_inj]; rfl
  constructor
  · unfold keyOf
    intro h
    split at h <;> rename_i hk
    case h_9 => exact absurd h nofun
    all_goals
      simp only [Option.ite_none_right_eq_some, Option.map_eq_some_iff, anyHeadOf_eq_some_iff, zero_iff,
        Option.some.injEq] at h
    case h_1 | h_2 | h_3 | h_4 | h_5 => obtain ⟨h0, rfl⟩ := h; exact ⟨hk.symm, h0⟩
    case h_6 | h_7 | h_8 => obtain ⟨g, hg, rfl⟩ := h; exact ⟨hk.symm, hg⟩
  · rintro ⟨hk, hn⟩
    unfold keyOf
    cases k <;> simp only [← hk, Key.code]
    case threadBreak g | threadLoose g | bobbinLow g => rw [anyHeadOf_eq_some_iff.2 hn]; rfl
    all_goals exact if_pos (zero_iff.2 hn)

theorem Key.code_range (k : Key) :
    1 ≤ k.code ∧ k.code ≤ 5 ∧ k.headNumber = 0 ∨
      6 ≤ k.code ∧ k.code ≤ 8 ∧ 1 ≤ k.headNumber ∧ k.headNumber ≤ 12 := by
  cases k with
  | threadBreak g | threadLoose g | bobbinLow g =>
    have := g.isLt
    simp only [Key.code, Key.headNumber, Machine.headNumber]
    omega
  | _ => decide

theorem Key.exists_of_range {code head : Nat}
    (h : 1 ≤ code ∧ code ≤ 5 ∧ head = 0 ∨ 6 ≤ code ∧ code ≤ 8 ∧ 1 ≤ head ∧ head ≤ 12) :
    ∃ k : Key, k.code = code ∧ k.headNumber = head := by
  rcases h with ⟨lo, hi, rfl⟩ | ⟨lo, hi, hlo, hhi⟩
  case inl =>
    interval_cases code
    exacts [⟨.shaftStall, rfl, rfl⟩, ⟨.carriageFault, rfl, rfl⟩, ⟨.frameLimit, rfl, rfl⟩,
      ⟨.recordFault, rfl, rfl⟩, ⟨.needleUnmatched, rfl, rfl⟩]
  case inr =>
    obtain ⟨g, hg⟩ : ∃ g : Head, Machine.headNumber g = head :=
      ⟨⟨head - 1, by omega⟩, Nat.sub_add_cancel hlo⟩
    interval_cases code
    exacts [⟨.threadBreak g, rfl, hg⟩, ⟨.threadLoose g, rfl, hg⟩, ⟨.bobbinLow g, rfl, hg⟩]

/-- A kind and a head that no key of the table has name nothing. -/
theorem keyOf_eq_none {kind head : Byte}
    (h : ¬(1 ≤ kind.toNat ∧ kind.toNat ≤ 5 ∧ head.toNat = 0 ∨
      6 ≤ kind.toNat ∧ kind.toNat ≤ 8 ∧ 1 ≤ head.toNat ∧ head.toNat ≤ 12)) : keyOf kind head = none := by
  refine Option.eq_none_iff_forall_ne_some.2 fun k named => h ?_
  obtain ⟨hk, hn⟩ := keyOf_eq_some_iff.1 named
  rw [← hk, ← hn]
  exact k.code_range

/-! ## The entry of a key acknowledged (R182) -/

/-- An acknowledged entry is still in the table unless it was CLEARED. -/
theorem isSome_find?_ackIn (unique : (cs.map (·.key)).Nodup)
    (found : cs.find? (fun c => decide (c.key = k)) = some c) :
    ((ackIn k cs).find? fun c => decide (c.key = k)).isSome = decide (c.state ≠ .cleared) := by
  induction cs with
  | nil => exact absurd found nofun
  | cons x xs ih =>
    obtain ⟨fresh, unique⟩ := List.nodup_cons.1 unique
    by_cases hx : x.key = k
    · obtain rfl : x = c := by simpa [hx] using found
      cases hst : x.state with
      | opened => simp [ackIn, hx, hst]
      | held => simp [ackIn, hx, hst]
      | cleared =>
        have gone : ∀ y ∈ xs, ¬y.key = k := fun y hy e => fresh (List.mem_map.2 ⟨y, hy, e.trans hx.symm⟩)
        simpa [ackIn, hx, hst] using gone
    · simp only [ackIn, hx, if_false, List.find?_cons, decide_false] at found ⊢
      exact ih unique found

theorem State.acknowledge_of_held (found : s.condition? k = some c) (held : c.state = .held) :
    s.acknowledge k = s := by
  simp [State.acknowledge, found, Condition.unacked, held]

theorem State.acknowledge_of_unheld (found : s.condition? k = some c) (unheld : c.state ≠ .held) :
    s.acknowledge k = { s with conditions := ackIn k s.conditions, changes := countChange s.changes } := by
  simp [State.acknowledge, found, Condition.unacked, unheld]

theorem State.isSome_condition?_acknowledge (sound : s.conditionsSound) (found : s.condition? k = some c) :
    ((s.acknowledge k).condition? k).isSome = decide (c.state ≠ .cleared) := by
  obtain ⟨unique, -, -⟩ := sound
  by_cases held : c.state = .held
  · rw [State.acknowledge_of_held found held, found, held]
    rfl
  · rw [State.acknowledge_of_unheld found held]
    exact isSome_find?_ackIn unique found

/-! ## ACK_CONDITION (R184) -/

theorem exec_ackCondition_badArgument {kind head : Byte} (hs : s.served) (h : keyOf kind head = none) :
    exec (.ackCondition [kind, head]) s = .next (s.reply 0x52 .badArgument .empty) := by
  refine congrArg Host.Outcome.next ((State.takeFrame_served _ _ s hs).trans ?_)
  simp [performAckCondition, h, State.refuse]

theorem exec_ackCondition_of_keyOf {kind head : Byte} (hs : s.served) (h : keyOf kind head = some k) :
    exec (.ackCondition [kind, head]) s = .next (s.ackFor k) := by
  refine congrArg Host.Outcome.next ((State.takeFrame_served _ _ s hs).trans ?_)
  simp [performAckCondition, h]

theorem State.ackFor_notFound (h : s.condition? k = none) : s.ackFor k = s.reply 0x52 .notFound .empty := by
  simp [State.ackFor, h, State.refuse]

theorem State.ackFor_found (sound : s.conditionsSound) (found : s.condition? k = some c) :
    s.ackFor k = (s.acknowledge k).reply 0x52 .ok (.acknowledged c.state (decide (c.state ≠ .cleared))) := by
  simp only [State.ackFor, found, State.isSome_condition?_acknowledge sound found]

end Sys2Proof.Machine

namespace Sys2Proof.Proofs

open Sys2Proof.Machine

/-- Settles O51: NEXT_CONDITION takes the first minimum by severity number among the entries not acknowledged, which
stand in the order of their places; LIST_CONDITIONS reports a piece of the placed table. -/
theorem conditionRequests : Obligations.ConditionRequests := by
  refine ⟨fun c => rfl, fun h => ⟨rfl, rfl, rfl, rfl, rfl, rfl, rfl, rfl⟩, fun s hs =>
    ⟨fun held => ?none, fun i c hc unheld first => ?next, fun b => ⟨fun hb => ?beyond, fun hb => ?listed⟩⟩⟩
  case none => exact exec_nextCondition_none hs (nextEntry_eq_none held)
  case next => rw [exec_nextCondition_some hs (nextEntry_eq_some hc unheld first), length_unacked]
  case beyond => rw [exec_listConditions hs, if_neg (Nat.not_le.2 hb)]
  case listed =>
    refine ⟨listedFrom s.conditions b.toNat, ?_, length_listedFrom _ _, fun j x => getElem?_listedFrom⟩
    rw [exec_listConditions hs, if_pos hb]

/-- Settles O52: outside R176's ranges the kind and the head name no key; inside them they name one, and its entry in
the table decides. -/
theorem ackConditionRule : Obligations.AckConditionRule := by
  intro s kind head hs sound refused
  have bad := fun h => exec_ackCondition_badArgument hs (keyOf_eq_none (kind := kind) (head := head) h)
  refine ⟨fun h => bad (by omega), fun _ _ _ => bad (by omega), fun _ _ _ => bad (by omega), fun inRange => ?_⟩
  obtain ⟨k, hk, hn⟩ := Key.exists_of_range inRange
  have named : keyOf kind head = some k := keyOf_eq_some_iff.2 ⟨hk, hn⟩
  refine ⟨k, hk, hn, fun k' hk' hn' => ?unique, fun absent => ?notFound, fun c found =>
    ⟨?found, State.acknowledge_of_held found⟩⟩
  case unique =>
    have named' : keyOf kind head = some k' := keyOf_eq_some_iff.2 ⟨hk'.trans hk, hn'.trans hn⟩
    exact Option.some.inj (named'.symm.trans named)
  case notFound =>
    exact (exec_ackCondition_of_keyOf hs named).trans (congrArg Host.Outcome.next (State.ackFor_notFound absent))
  case found => rw [exec_ackCondition_of_keyOf hs named, State.ackFor_found sound found]

end Sys2Proof.Proofs
end

section
/-! PROOFS. The check byte of a frame (R189) and READ_CONFIG with its 52 bytes (R200, Table 11-4). -/

namespace Sys2Proof.Machine

variable {s : State}

/-! ## The check byte (R189) -/

/-- The check byte is the one value that makes the sum 0. -/
theorem sum_add_eq_zero_iff (bs : List Byte) (v : Byte) : bs.foldl (· + ·) 0 + v = 0 ↔ v = checkByte bs := by
  rw [checkByte, zero_sub, eq_neg_iff_add_eq_zero, add_comm]

theorem sum_checked (bs : List Byte) : (bs ++ [checkByte bs]).foldl (· + ·) 0 = 0 := by
  rw [List.foldl_append]
  exact (sum_add_eq_zero_iff bs _).2 rfl

theorem frameOf_head? (body : List Byte) : (frameOf body).head? = some Config.marker := rfl

/-- Behind the marker a frame's bytes are its length and its body with their check byte. -/
theorem frameOf_drop_marker (body : List Byte) :
    (frameOf body).drop 1 =
      (BitVec.ofNat 8 body.length :: body) ++ [checkByte (BitVec.ofNat 8 body.length :: body)] := rfl

theorem frameOf_sum (body : List Byte) : ((frameOf body).drop 1).foldl (· + ·) 0 = 0 := by
  rw [frameOf_drop_marker, sum_checked]

theorem RxFrame.goodCheck_eq_false_iff {f : RxFrame} :
    f.goodCheck = false ↔ (f.bytes ++ [f.check.getD 0]).foldl (· + ·) (BitVec.ofNat 8 f.length) ≠ 0 :=
  decide_eq_false_iff_not

/-- A whole frame whose sum is not 0 is taken as a flawed one, with its first body byte (R192). -/
theorem RxFrame.command_of_badCheck {f : RxFrame} (whole : f.overrun = false) (bad : f.goodCheck = false) :
    f.command = .badFrame (.badCheck (f.bytes.headD 0)) := by
  simp [RxFrame.command, whole, bad]

/-! ## The bytes of the configuration record (Table 11-4) -/

@[simp] theorem length_halfBytes (h : Half) : (halfBytes h).length = 2 := rfl

/-- One value for each field of 1 or 2 bytes gives as many bytes as the fields have together. -/
theorem length_fieldBytes {shapes : List (Nat × Bool)} {vs : List Int}
    (sizes : ∀ f ∈ shapes, f.1 = 1 ∨ f.1 = 2) (one_each : vs.length = shapes.length) :
    (fieldBytes shapes vs).length = (shapes.map Prod.fst).sum := by
  induction shapes generalizing vs with
  | nil => rfl
  | cons f shapes ih =>
    obtain ⟨size, signed⟩ := f
    obtain ⟨size_eq, sizes⟩ := List.forall_mem_cons.1 sizes
    obtain ⟨v, vs, rfl⟩ := List.exists_cons_of_length_eq_add_one one_each
    have rest := ih sizes (Nat.succ.inj one_each)
    obtain rfl | rfl := size_eq
    · simp [fieldBytes, rest, Nat.add_comm]
    · simp [fieldBytes, rest]

theorem Configuration.length_bytes (c : Configuration) : c.bytes.length = 52 :=
  length_fieldBytes (shapes := fieldShapes) (vs := c.values) (by decide) rfl

theorem Payload.config_bytes (c : Configuration) : (Payload.config c).bytes = c.bytes := rfl

/-! ## READ_CONFIG, and the record after each reset (R200 to R202) -/

theorem exec_readConfig_served (hs : s.served) :
    exec (.readConfig []) s = .next (s.reply 0x05 .ok (.config s.config)) :=
  congrArg Host.Outcome.next (State.takeFrame_served _ _ s hs)

theorem exec_powerOn : exec .powerOn s = .next (s.cold .power [] s.free) := rfl

theorem exec_resetPin : exec .resetPin s = .next (s.cold .pin s.storeAfterPin.1 s.storeAfterPin.2) := rfl

theorem exec_linkReset : exec .linkReset s = .next s.linkReset := rfl

@[simp] theorem State.cold_config (cause : ResetCause) (store : List Host.Cell) (free : Nat) :
    (s.cold cause store free).config = .defaults := rfl

@[simp] theorem State.linkReset_config : s.linkReset.config = s.config := by
  rw [State.linkReset, State.latchesOffAtRest_config]

end Sys2Proof.Machine

namespace Sys2Proof.Proofs

open Sys2Proof.Machine

/-- Settles O5: the sum fixes the check byte, which stands last in every reply's frame; and the taking of a frame
that is not marked tests the sum first. -/
theorem checkByteRule : Obligations.CheckByteRule :=
  ⟨sum_add_eq_zero_iff, fun _ => ⟨frameOf_head? _, frameOf_sum _⟩,
    fun _ whole bad => RxFrame.command_of_badCheck whole (RxFrame.goodCheck_eq_false_iff.2 bad)⟩

/-- Settles O10: READ_CONFIG has no check behind its empty payload, the record's 52 bytes are the sizes of its
fields added up, and each reset's next state has its record by one lemma. -/
theorem readConfigRule : Obligations.ReadConfigRule := by
  refine ⟨fun s hs => ⟨exec_readConfig_served hs, Payload.config_bytes _, s.config.length_bytes⟩,
    fun s t cold => ?cold, fun s t link => ?link⟩
  case cold =>
    rw [exec_powerOn, exec_resetPin] at cold
    obtain ⟨⟨⟩⟩ | ⟨⟨⟩⟩ := cold
    · exact State.cold_config ..
    · exact State.cold_config ..
  case link =>
    obtain ⟨⟩ := exec_linkReset.symm.trans link
    exact State.linkReset_config

end Sys2Proof.Proofs
end

section
/-! PROOFS. The 52 bytes of a configuration record and its 32 field values (R198, R200, Table 11-4). -/

namespace Sys2Proof.Machine

/-- The tests of the fields read the 32 values alone. -/
theorem fieldChecks_congr {v w : List Int} (same : ∀ i, i < 32 → w.getD i 0 = v.getD i 0) :
    fieldChecks w = fieldChecks v := by
  simp (disch := decide) only [fieldChecks, same]

theorem firstBadField_eq_none_iff {v : List Int} : firstBadField v = none ↔ (fieldChecks v).all (·) = true := by
  simp [firstBadField, List.findIdx?_eq_none_iff]

/-- Values that pass the tests are those of the configuration they make. -/
theorem configurationOf_values {v : List Int} (good : (fieldChecks v).all (·) = true) (i : Nat) (hi : i < 32) :
    (configurationOf v).values.getD i 0 = v.getD i 0 := by
  simp only [fieldChecks, List.all_cons, List.all_nil, Bool.and_eq_true, decide_eq_true_eq] at good
  simp only [configurationOf, Configuration.values]
  rcases (show i < 29 ∨ i = 29 ∨ i = 30 ∨ i = 31 by omega) with number | rfl | rfl | rfl
  · interval_cases i <;> simp only [List.getD_cons_zero, List.getD_cons_succ] <;> omega
  all_goals simp only [List.getD_cons_zero, List.getD_cons_succ]
  · obtain e | e : v.getD 29 0 = 0 ∨ v.getD 29 0 = 1 := by omega
    all_goals simp only [e]; decide
  · obtain e | e : v.getD 30 0 = 0 ∨ v.getD 30 0 = 1 := by omega
    all_goals simp only [e]; decide
  · obtain e | e | e : v.getD 31 0 = 0 ∨ v.getD 31 0 = 1 ∨ v.getD 31 0 = 2 := by omega
    all_goals simp only [e]; decide

/-- Values that pass the tests make a configuration in range (R198). -/
theorem configurationOf_inRange {v : List Int} (good : firstBadField v = none) :
    (configurationOf v).inRange = true := by
  have good := firstBadField_eq_none_iff.1 good
  unfold Configuration.inRange
  rwa [fieldChecks_congr (configurationOf_values good)]

end Sys2Proof.Machine
end

section
/-! PROOFS. What a step may do, said once: the deeds that every command is made of, as far as the invariants of a run
can see them. Each invariant is then a property that every deed keeps. -/

namespace Sys2Proof.Machine

/-! ## The fields that the invariants see -/

/-- The store, the condition table with its change count, and the halt line. -/
def State.tableView (s : State) : List Host.Cell × List Condition × Nat × Bool :=
  (s.store, s.conditions, s.changes, s.haltLine)

/-- The speeds in force, and the shaft as far as its speed command goes. -/
def State.shaftView (s : State) : Configuration × Nat × ShaftState × Nat :=
  (s.config, s.shaft.command, s.shaft.state, s.shaft.vPrev)

/-- The run with its path fields, the queue, the feed's activity, the walk and the run-change flag. -/
def State.runView (s : State) :
    RunState × Option Position × List Design × Option Position × Nat × Nat × Nat × List Entry × Activity ×
      Option Walk × Bool :=
  (s.run.state, s.run.chain, s.run.visited, s.run.resume, s.run.ordinal, s.run.frontier, s.run.blockStart, s.queue,
    s.feed.activity, s.walk, s.link.runChange)

/-- All that the invariants see. -/
def State.watched (s : State) := (s.tableView, s.shaftView, s.runView)

/-- The run sews, or changes its colour. -/
def RunState.active : RunState → Bool
  | .running => true
  | .stopping => true
  | .changing => true
  | .idle => false
  | .stopped => false
  | .backing => false
  | .halted => false

/-! ## The deeds -/

/-- What happens to the shaft's speed command (R92, R98, R101). -/
inductive ShaftDeed (s t : State) : Prop
  | unwound (command : t.shaft.command = 0) (state : t.shaft.state ≠ .turning)
  | crawls (command : t.shaft.command = s.config.speedMin) (state : t.shaft.state.undriven = false)
      (turning : t.shaft.state ≠ .turning)
  | rests (command : t.shaft.command = s.shaft.command) (state : t.shaft.state = s.shaft.state)
      (vPrev : t.shaft.vPrev = s.config.speedMin)
  | stands (command : t.shaft.command = s.shaft.command) (undriven : s.shaft.state.undriven = true)
      (state : t.shaft.state = .still)
  | parks (turning : s.shaft.state = .turning) (state : t.shaft.state = .parking)
      (command : t.shaft.command = min s.shaft.vPrev s.config.speedMin)
  | begins (e : Entry) (rest : List Entry)
      (ready : s.shaft.state = .turning ∨ s.shaft.vPrev = s.config.speedMin)
      (command : t.shaft.command = s.planSpeed e rest) (vPrev : t.shaft.vPrev = s.planSpeed e rest)
      (state : t.shaft.state = .turning)

/-- The ordinals stay, a movement is executed, or a block starts (R55). -/
def Run.advances (r r' : Run) : Prop :=
  (r'.blockStart = r.blockStart ∧ r'.ordinal = r.ordinal ∧ r'.frontier = r.frontier) ∨
  (r'.blockStart = r.blockStart ∧ r'.ordinal = satOrdinal (r.ordinal + 1) ∧
    r'.frontier = max r.frontier (satOrdinal (r.ordinal + 1))) ∨
  (r'.blockStart = r.ordinal ∧ r'.ordinal = r.ordinal ∧ r'.frontier = r.frontier)

/-- A run with the same ordinals. -/
def Run.sameOrdinals (r r' : Run) : Prop :=
  r'.blockStart = r.blockStart ∧ r'.ordinal = r.ordinal ∧ r'.frontier = r.frontier

/-- A walk has not reached its clamp (R70, R71). -/
def State.clampOpen (s : State) (w : Walk) : Prop :=
  match w.dir with
  | .backward => s.run.ordinal ≠ s.run.blockStart
  | .forward => s.run.ordinal ≠ s.run.frontier

/-- What happens to the run and its path; `sure` is what a walk relies on when its burst arrives, that it
has not reached its clamp while it waits for a record. -/
inductive RunDeed (sure : Prop) (s t : State) : Prop
  /-- STOPPED, HALTED or IDLE is entered (R152, R159, R164, R170). -/
  | holds (state : t.run.state = .stopped ∨ t.run.state = .halted ∨ t.run.state = .idle)
      (queue : t.queue = []) (feed : t.feed.activity = .idle) (flag : t.link.runChange = true)
      (ordinals : s.run.sameOrdinals t.run) (walk : t.walk = none ∨ t.walk = s.walk ∧ s.run.state ≠ .backing)
      (path : t.run.state = .idle → t.run.chain = none ∧ t.run.visited = [] ∧ t.run.resume = none)
  /-- The feed fills the queue (R60 to R63). -/
  | fills (feed : s.feed.activity = .filling) (state : t.run.state = s.run.state) (ordinals : s.run.sameOrdinals t.run)
      (walk : t.walk = s.walk) (flag : t.link.runChange = s.link.runChange)
      (path : t.run.chain = s.run.chain ∧ t.run.resume = s.run.resume)
  /-- A run that sews goes on. -/
  | sews (before : s.run.state.active = true) (after : t.run.state.active = true) (ordinals : s.run.advances t.run)
      (walk : t.walk = s.walk) (flag : t.link.runChange = s.link.runChange)
  /-- START and RESUME (R158, R163). -/
  | starts (before : s.run.state ≠ .backing) (after : t.run.state = .running)
      (ordinals : s.run.sameOrdinals t.run ∨ t.run.blockStart = 0 ∧ t.run.ordinal = 0 ∧ t.run.frontier = 0)
      (walk : t.walk = s.walk) (flag : t.link.runChange = s.link.runChange)
  /-- BACK and FORWARD (R168). -/
  | turnsBack (before : s.run.state = .stopped) (after : t.run.state = .backing) (queue : t.queue = s.queue)
      (feed : t.feed.activity = .walking) (ordinals : s.run.sameOrdinals t.run)
      (walk : ∀ w, t.walk = some w → w.want = none) (flag : t.link.runChange = s.link.runChange)
  /-- A walk goes on (R68 to R71): a record is begun, or waited for, before the clamp is reached. -/
  | walks (path : s.feed.activity ≠ .idle ∨ s.run.resume ≠ none) (state : t.run.state = s.run.state)
      (queue : t.queue = s.queue) (feed : t.feed.activity = s.feed.activity)
      (flag : t.link.runChange = s.link.runChange) (w w' : Walk) (walk : s.walk = some w) (walk' : t.walk = some w')
      (dir : w'.dir = w.dir)
      (step : s.run.sameOrdinals t.run ∧ (w'.want ≠ none → sure → s.clampOpen w) ∨
        (sure → s.clampOpen w) ∧ w'.want = none ∧ t.run.blockStart = s.run.blockStart ∧
          t.run.frontier = s.run.frontier ∧
          t.run.ordinal = match w.dir with
            | .backward => s.run.ordinal - 1
            | .forward => satOrdinal (s.run.ordinal + 1))

/-- One deed: it changes nothing that the invariants see, or one cause in the condition table, or records of the
store, or the shaft, or the run, or it is a configuration put in force with the shaft STILL, the halt line becoming inactive, or the
link reset. -/
inductive Deed (sure : Prop) (s t : State) : Prop
  | aside (same : t.watched = s.watched)
  | opens (k : Key) (n : Option Needle) (d : Detail) (p : Option Position) (eq : t = s.openCause k n d p)
  | clears (k : Key) (eq : t = s.clearCause k)
  | acks (k : Key) (eq : t = s.acknowledge k)
  | stores (base first : Nat) (ws : List Word) (eq : t = { s with store := writeRegion s.store base first ws })
  | shaft (deed : ShaftDeed s t) (config : t.config = s.config) (table : t.tableView = s.tableView)
      (run : t.runView = s.runView)
  | run (deed : RunDeed sure s t) (table : t.tableView = s.tableView) (shaft : t.shaftView = s.shaftView)
  | configures (range : t.config.inRange = true) (still : s.shaft.state = .still)
      (command : t.shaft.command = s.shaft.command) (state : t.shaft.state = s.shaft.state)
      (table : t.tableView = s.tableView) (run : t.runView = s.runView)
  | frees (eq : t = { s with haltLine := false })
  | resets (eq : t = s.linkReset)

/-- Deeds one behind the other. -/
def Does (sure : Prop) : State → State → Prop := Relation.ReflTransGen (Deed sure)

/-- A property that every deed keeps holds after any number of them. -/
theorem Does.keeps {sure : Prop} {P : State → Prop} (keeps : ∀ s t, Deed sure s t → P s → P t) {s t : State}
    (h : Does sure s t) (hs : P s) : P t := by
  induction h with
  | refl => exact hs
  | tail _ deed ih => exact keeps _ _ deed ih

section Deeds

variable {sure : Prop} {s0 s t : State}

theorem Does.refl (sure : Prop) (s : State) : Does sure s s := Relation.ReflTransGen.refl

theorem Does.step (h : Does sure s0 s) (d : Deed sure s t) : Does sure s0 t := Relation.ReflTransGen.tail h d

theorem Does.aside (h : Does sure s0 s) (same : t.watched = s.watched) : Does sure s0 t := h.step (.aside same)

theorem Does.openCause (h : Does sure s0 s) (k : Key) (n : Option Needle) (d : Detail) (p : Option Position) :
    Does sure s0 (s.openCause k n d p) := h.step (.opens k n d p rfl)

theorem Does.clearCause (h : Does sure s0 s) (k : Key) : Does sure s0 (s.clearCause k) := h.step (.clears k rfl)

theorem Does.acknowledge (h : Does sure s0 s) (k : Key) : Does sure s0 (s.acknowledge k) := h.step (.acks k rfl)

theorem Does.shaft (h : Does sure s0 s) (deed : ShaftDeed s t) (config : t.config = s.config := by rfl)
    (table : t.tableView = s.tableView := by rfl) (run : t.runView = s.runView := by rfl) : Does sure s0 t :=
  h.step (.shaft deed config table run)

theorem Does.run (h : Does sure s0 s) (deed : RunDeed sure s t) (table : t.tableView = s.tableView := by rfl)
    (shaft : t.shaftView = s.shaftView := by rfl) : Does sure s0 t :=
  h.step (.run deed table shaft)

theorem Does.ite {c : Prop} [Decidable c] {u : State} (ht : Does sure s0 t) (hu : Does sure s0 u) :
    Does sure s0 (if c then t else u) := by
  split <;> assumption

theorem Does.foldl {α : Type} (f : State → α → State) (each : ∀ t a, Does sure s0 t → Does sure s0 (f t a))
    (l : List α) (h : Does sure s0 s) : Does sure s0 (l.foldl f s) := by
  induction l generalizing s with
  | nil => exact h
  | cons a l ih => exact ih (each s a h)

/-! ## Heads, latches and causes -/

theorem Does.setHead (h : Does sure s0 s) (i : Head) (r : HeadRecord) : Does sure s0 (s.setHead i r) := h.aside rfl

theorem Does.heads (h : Does sure s0 s) (heads : Table 12 HeadRecord) : Does sure s0 { s with heads := heads } :=
  h.aside rfl

theorem Does.openThreadBreak (h : Does sure s0 s) (i : Head) (c : BreakCause) (p : Option Position) :
    Does sure s0 (s.openThreadBreak i c p) := h.openCause ..

theorem Does.testThreadBreaks (h : Does sure s0 s) : Does sure s0 s.testThreadBreaks :=
  Does.foldl _ (fun _ _ ht => Does.ite ht (ht.clearCause _)) _ h

theorem Does.latchesOffAtRest (h : Does sure s0 s) : Does sure s0 s.latchesOffAtRest :=
  h.aside (by simp [State.watched, State.tableView, State.shaftView, State.runView])

theorem State.requestStop_watched_of_eq (r : StopReason) (h : (s.requestStop r).run.state = s.run.state) :
    (s.requestStop r).watched = s.watched := by
  rw [State.requestStop_eq]
  simp [State.watched, State.tableView, State.shaftView, State.runView, h]

/-- A run that sews still sews once a controlled stop is requested, and no other run changes. -/
theorem State.requestStop_active (r : StopReason) : (s.requestStop r).run.state.active = s.run.state.active := by
  unfold State.requestStop
  split <;> repeat' split
  all_goals simp_all [RunState.active]

theorem Does.requestStop (h : Does sure s0 s) (r : StopReason) : Does sure s0 (s.requestStop r) := by
  by_cases same : (s.requestStop r).run.state = s.run.state
  · exact h.aside (State.requestStop_watched_of_eq r same)
  · have before : s.run.state.active = true := by
      revert same
      unfold State.requestStop
      cases hs : s.run.state <;> simp [RunState.active, hs]
    rw [State.requestStop_eq]
    exact h.run (.sews before ((State.requestStop_active r).trans before) (.inl ⟨rfl, rfl, rfl⟩) rfl rfl)

theorem Does.breakNeedle (h : Does sure s0 s) (i : Head) : Does sure s0 (s.breakNeedle i) :=
  h.aside (by simp [State.watched, State.tableView, State.shaftView, State.runView])

theorem Does.breakHead (h : Does sure s0 s) (i : Head) (c : BreakCause) : Does sure s0 (s.breakHead i c) := by
  have broken := (((h.setHead i ((s.heads.get i).toBroken s.mendOrdinal)).breakNeedle i).openThreadBreak i c s.run.chain)
  unfold State.breakHead
  split
  · exact broken.requestStop _
  · exact broken

theorem Does.looseHead (h : Does sure s0 s) (i : Head) : Does sure s0 (s.looseHead i) :=
  (h.openCause ..).setHead ..

theorem Does.quietHead (h : Does sure s0 s) (i : Head) : Does sure s0 (s.quietHead i) := by
  unfold State.quietHead
  repeat' split
  · exact h
  · exact (h.setHead ..).clearCause _
  · exact h.setHead ..

theorem Does.testBobbin (h : Does sure s0 s) (i : Head) : Does sure s0 (s.testBobbin i) := by
  unfold State.testBobbin
  dsimp only
  repeat' split
  · exact h.breakHead ..
  · exact h.openCause ..
  · exact h

theorem Does.testHead (h : Does sure s0 s) (i : Head) : Does sure s0 (s.testHead i) := by
  unfold State.testHead
  dsimp only
  repeat' split
  · exact h.breakHead ..
  · exact (h.looseHead i).testBobbin i
  · exact h.testBobbin i

/-- The head's record with the demand of a completed record charged (R138, R140). -/
def State.chargedHead (k : RevKind) (i : Head) (s : State) : HeadRecord :=
  let r := s.heads.get i
  { r with balance := chargeBalance r.balance (s.config.demand k), meter := r.meter + s.config.demand k
           grace := r.grace - 1 }

theorem Does.chargeHead (h : Does sure s0 s) (k : RevKind) (i : Head) : Does sure s0 (s.chargeHead k i) := by
  have judged := Does.ite (c := decide ((s.heads.get i).grace = 0) = true)
    ((h.setHead i (s.chargedHead k i)).testHead i) (h.setHead i (s.chargedHead k i))
  have quieted := Does.ite (c := (decide ((s.heads.get i).grace = 0) &&
    s.config.isLoose (s.chargedHead k i).balance) = true) judged (judged.quietHead i)
  exact Does.ite (quieted.setHead ..) quieted

theorem Does.noHeadsTest (h : Does sure s0 s) : Does sure s0 s.noHeadsTest := by
  unfold State.noHeadsTest
  split
  · exact h
  · exact h.requestStop _

theorem Does.chargeHeads (h : Does sure s0 s) (a : Active) : Does sure s0 (s.chargeHeads a) :=
  have charged := Does.foldl (fun s i => if a.pen.get i then s.chargeHead a.kind i else s)
    (fun _ _ ht => Does.ite (ht.chargeHead _ _) ht) allHeads h
  (Does.ite (charged.heads _) charged).noHeadsTest

theorem Does.completeRecord (h : Does sure s0 s) : Does sure s0 s.completeRecord := by
  have done : Does sure s0 { s with shaft := { s.shaft with active := none, pendingFlag := false } } := h.aside rfl
  unfold State.completeRecord
  repeat' split
  · exact h
  · exact done.chargeHeads _
  · exact done

theorem Does.rejoin (h : Does sure s0 s) : Does sure s0 s.rejoin := (h.heads _).testThreadBreaks

theorem Does.colourHead (h : Does sure s0 s) (p : Option Position) (i : Head) : Does sure s0 (s.colourHead p i) := by
  have dropped (r : HeadRecord) : Does sure s0 ((s.setHead i r).openThreadBreak i .needleNotReady p) :=
    (h.setHead i r).openThreadBreak ..
  unfold State.colourHead
  dsimp only
  repeat' split
  all_goals first
    | exact h
    | exact h.setHead ..
    | exact (dropped _).requestStop _
    | exact dropped _

theorem Does.colourHeads (h : Does sure s0 s) (p : Option Position) : Does sure s0 (s.colourHeads p) :=
  (Does.foldl (fun s i => if s.enabled i then s.colourHead p i else s)
    (fun _ _ ht => Does.ite (ht.colourHead _ _) ht) allHeads h).noHeadsTest.testThreadBreaks

theorem Does.placeHead (h : Does sure s0 s) (p : Option Position) (i : Head) : Does sure s0 (s.placeHead p i) := by
  unfold State.placeHead
  dsimp only
  repeat' split
  all_goals first
    | exact h
    | exact h.setHead ..
    | exact (h.setHead ..).openThreadBreak ..

theorem Does.placeHeads (h : Does sure s0 s) (p : Option Position) : Does sure s0 (s.placeHeads p) :=
  (Does.foldl (fun s i => if s.enabled i then s.placeHead p i else s)
    (fun _ _ ht => Does.ite (ht.placeHead _ _) ht) allHeads h).testThreadBreaks.noHeadsTest

theorem Does.endHeads (h : Does sure s0 s) : Does sure s0 s.endHeads :=
  ((Does.foldl (fun s i => s.clearCause (.threadLoose i)) (fun _ _ ht => ht.clearCause _) allHeads h).heads
    _).testThreadBreaks

/-! ## The shaft -/

theorem Does.bandCheck (h : Does sure s0 s) : Does sure s0 s.bandCheck := by
  unfold State.bandCheck Shaft.bandCheck
  split
  · rename_i stops
    obtain ⟨-, hs⟩ := stops
    refine h.shaft (.unwound rfl ?_)
    rcases hs with hs | ⟨hs, -⟩ <;> cases hr : s.shaft.atRest <;> simp [hs]
  · exact h

theorem Does.park (h : Does sure s0 s) (turning : s.shaft.state = .turning) : Does sure s0 s.park :=
  (h.shaft (t := { s with shaft := { s.shaft with state := .parking, command := min s.shaft.vPrev s.config.speedMin } })
    (.parks turning rfl rfl)).bandCheck

theorem Does.commitSpeed (h : Does sure s0 s) (e : Entry) (rest : List Entry)
    (ready : s.shaft.state = .turning ∨ s.shaft.vPrev = s.config.speedMin) : Does sure s0 (s.commitSpeed e rest) :=
  h.shaft (.begins e rest ready rfl rfl rfl)

theorem Does.slowed (h : Does sure s0 s) :
    Does sure s0 { s with shaft := { s.shaft with vPrev := s.config.speedMin } } :=
  h.shaft (.rests rfl rfl rfl)

theorem ShaftDeed.comesToRest (s : State) : ShaftDeed s { s with shaft := s.shaft.comeToRest s.config } := by
  unfold Shaft.comeToRest
  dsimp only
  cases hs : s.shaft.state <;> dsimp only
  case still | turning => exact .rests rfl hs.symm rfl
  case coasting => exact .stands rfl (by rw [hs]; rfl) rfl
  case braking => exact .unwound rfl nofun
  case parking | positioning =>
    split
    · exact .unwound rfl nofun
    · exact .crawls rfl rfl nofun

theorem Does.comeToRest (h : Does sure s0 s) : Does sure s0 s.comeToRest :=
  (h.shaft (ShaftDeed.comesToRest s)).latchesOffAtRest

/-! ## Holding a run and ending it -/

theorem RunState.ne_backing_of_active {r : RunState} (h : r.active = true) : r ≠ .backing := by
  rintro rfl; cases h

theorem Does.enterStopped (h : Does sure s0 s) (r : StopReason) (hb : s.run.state ≠ .backing) :
    Does sure s0 (s.enterStopped r) :=
  h.run (.holds (.inl rfl) rfl rfl rfl ⟨rfl, rfl, rfl⟩ (.inr ⟨rfl, hb⟩) nofun)

theorem Does.endWalk (h : Does sure s0 s) : Does sure s0 s.endWalk :=
  h.run (.holds (.inl rfl) rfl rfl rfl ⟨rfl, rfl, rfl⟩ (.inl rfl) nofun)

theorem Does.enterHalted (h : Does sure s0 s) (r : StopReason) : Does sure s0 (s.enterHalted r) := by
  unfold State.enterHalted
  cases hs : s.run.state <;> dsimp only
  case idle => exact h
  case halted => exact h.aside rfl
  case backing => exact h.run (.holds (.inr (.inl rfl)) rfl rfl rfl ⟨rfl, rfl, rfl⟩ (.inl rfl) nofun)
  all_goals
    exact h.run (.holds (.inr (.inl rfl)) rfl rfl rfl ⟨rfl, rfl, rfl⟩ (.inr ⟨rfl, by simp [hs]⟩) nofun)

theorem Does.endRun (h : Does sure s0 s) (r : RunResult) (x : StopReason) : Does sure s0 (s.endRun r x) := by
  refine (Does.latchesOffAtRest (Does.endHeads (((Does.clearCause ?_ _).clearCause _).clearCause _))).bandCheck
  exact h.run (.holds (.inr (.inr rfl)) rfl rfl rfl ⟨rfl, rfl, rfl⟩ (.inl rfl) fun _ => ⟨rfl, rfl, rfl⟩)

theorem Does.emergencyHalt (h : Does sure s0 s) (r : StopReason) : Does sure s0 (s.emergencyHalt r) := by
  have halted : ShaftDeed s { s with shaft := s.shaft.halt } :=
    .unwound s.shaft.halt_command (by rcases s.shaft.halt_state with e | e <;> simp [e])
  refine Does.enterHalted (Does.latchesOffAtRest ?_) r
  exact (h.shaft halted).aside rfl

/-! ## The carriage and colour changes -/

theorem Does.carriageFault (h : Does sure s0 s) (f : CarriageFault) (n : Option Needle) :
    Does sure s0 (s.carriageFault f n) := by
  have opened := (h.aside (t := { s with carriage := { s.carriage with state := .idle } }) rfl).openCause
    .carriageFault n (.carriage f) s.colourPosition
  unfold State.carriageFault
  dsimp only
  split
  · rename_i hs
    exact opened.enterStopped _ (by simp [hs])
  · exact opened

theorem Does.clearUnmatched (h : Does sure s0 s) (p : Position) : Does sure s0 (s.clearUnmatched p) := by
  unfold State.clearUnmatched
  split
  · exact h
  · exact Does.ite (h.clearCause _) h

theorem Does.afterChange (h : Does sure s0 s) (active : s.run.state.active = true) : Does sure s0 s.afterChange := by
  have unbacked := RunState.ne_backing_of_active active
  unfold State.afterChange
  repeat' split
  · exact h.enterStopped _ unbacked
  · exact h.run (.sews active rfl (.inl ⟨rfl, rfl, rfl⟩) rfl rfl)
  · exact h.enterStopped _ unbacked

theorem State.colourHead_active (p : Option Position) (i : Head) :
    (s.colourHead p i).run.state.active = s.run.state.active := by
  unfold State.colourHead
  dsimp only
  repeat' split
  all_goals simp [State.requestStop_active, State.openThreadBreak]

theorem State.colourHeads_active (p : Option Position) :
    (s.colourHeads p).run.state.active = s.run.state.active := by
  have folded := foldl_keeps (fun t : State => t.run.state.active)
    (fun s i => if s.enabled i then s.colourHead p i else s)
    (fun t i => by split <;> simp [State.colourHead_active]) allHeads s
  unfold State.colourHeads State.noHeadsTest
  rw [State.testThreadBreaks_run]
  split
  · exact folded
  · exact (State.requestStop_active _).trans folded

theorem State.clearUnmatched_run (p : Position) : (s.clearUnmatched p).run = s.run := by
  unfold State.clearUnmatched
  repeat' split
  all_goals simp

theorem Does.changeDone (h : Does sure s0 s) (n : Needle) (active : s.run.state.active = true) :
    Does sure s0 (s.changeDone n) := by
  unfold State.changeDone
  split
  · exact h
  · rename_i e rest _
    have executed (t : State) (ht : Does sure s0 t) (still : t.run.state.active = true) :
        Does sure s0
          (State.clearUnmatched e.pos { t with queue := rest, run := { t.run with chain := some e.pos } }).afterChange := by
      refine Does.afterChange (Does.clearUnmatched ?_ _) ?_
      · exact ht.run (.sews still still (.inl ⟨rfl, rfl, rfl⟩) rfl rfl)
      · rw [State.clearUnmatched_run]; exact still
    have started : Does sure s0
        { s with run := { s.run with needle := some n, blockStart := s.run.ordinal, blockEnd := false } } :=
      h.run (.sews active active (.inr (.inr ⟨rfl, rfl, rfl⟩)) rfl rfl)
    exact executed _ ((started.clearCause .carriageFault).colourHeads (some e.pos))
      (by rw [State.colourHeads_active, State.clearCause_run]; exact active)

theorem Does.carriageDone (h : Does sure s0 s) (n : Needle) : Does sure s0 (s.carriageDone n) := by
  have idle : Does sure s0 { s with carriage := { s.carriage with state := .idle } } := h.aside rfl
  unfold State.carriageDone
  dsimp only
  split
  · rename_i hs
    exact idle.changeDone n (by simp [hs, RunState.active])
  · refine Does.clearCause ?_ _
    exact idle.aside rfl

theorem State.quickInChange_state (h : s.quickInChange = true) : s.run.state = .changing := by
  simp only [State.quickInChange, Bool.and_eq_true, decide_eq_true_eq] at h
  obtain ⟨⟨changing, -⟩, -⟩ := h
  exact changing

theorem Does.abandonChange (h : Does sure s0 s) (hb : s.run.state ≠ .backing) : Does sure s0 s.abandonChange :=
  (h.aside (t := { s with carriage := { s.carriage with state := .idle } }) rfl).enterStopped _ hb

theorem Does.stepDone (h : Does sure s0 s) (p n : Needle) : Does sure s0 (s.stepDone p n) := by
  unfold State.stepDone
  repeat' split
  · rename_i quick
    exact h.abandonChange (by simp [State.quickInChange_state quick])
  · exact h.carriageDone n
  · exact h.aside rfl
  · exact h.aside rfl

theorem Does.codeChange (h : Does sure s0 s) (c : Fin 16) : Does sure s0 (s.codeChange c) := by
  have shown : Does sure s0
      { s with carriage := { s.carriage with code := c, last := (needleAt c).or s.carriage.last } } := h.aside rfl
  unfold State.codeChange
  dsimp only
  repeat' split
  all_goals first
    | exact shown
    | exact shown.stepDone ..
    | exact shown.carriageFault ..

theorem Does.settleEnd (h : Does sure s0 s) : Does sure s0 s.settleEnd := by
  unfold State.settleEnd
  split
  · exact Does.ite (h.carriageDone _) (h.carriageFault ..)
  · exact h
  · exact h

theorem Does.stepTimeout (h : Does sure s0 s) : Does sure s0 s.stepTimeout := by
  unfold State.stepTimeout
  split
  · exact h.carriageFault ..
  · exact h
  · exact h

theorem Does.shaftMoved (h : Does sure s0 s) : Does sure s0 s.shaftMoved := by
  unfold State.shaftMoved
  split
  · exact h.carriageFault ..
  · exact h
  · exact h

theorem Does.beginChange (h : Does sure s0 s) (e : Entry) (c : Half) (active : s.run.state.active = true) :
    Does sure s0 (s.beginChange e c) := by
  have changing : Does sure s0 { s with run := { s.run with state := .changing } } :=
    h.run (.sews active rfl (.inl ⟨rfl, rfl, rfl⟩) rfl rfl)
  unfold State.beginChange
  dsimp only
  repeat' split
  · exact changing.carriageFault ..
  · exact (changing.openCause ..).enterStopped _ nofun
  · exact changing.carriageDone _
  · exact changing.aside rfl

end Deeds
end Sys2Proof.Machine
end

section
/-! PROOFS. What a step may do: the head of the queue, the feed, the walk, and each command. -/

namespace Sys2Proof.Machine

section Deeds

variable {sure : Prop} {s0 s t : State}

/-! ## The head of the queue -/

theorem State.active_of_sewing (h : s.sewing = true) : s.run.state.active = true := by
  rcases of_decide_eq_true h with e | e <;> rw [e] <;> rfl

theorem State.unbacked_of_sewing (h : s.sewing = true) : s.run.state ≠ .backing :=
  RunState.ne_backing_of_active (State.active_of_sewing h)

theorem State.sewing_of_headReadable (h : s.headReadable = true) : s.sewing = true := by
  simp only [State.headReadable, Bool.and_eq_true] at h
  obtain ⟨⟨⟨⟨⟨sewing, -⟩, -⟩, -⟩, -⟩, -⟩ := h
  exact sewing

theorem Does.take (h : Does sure s0 s) (e : Entry) (rest : List Entry) (active : s.run.state.active = true) :
    Does sure s0 (s.take e rest) := by
  unfold State.take
  dsimp only
  split
  · refine Does.rejoin (h.run (.sews active active (.inr (.inl ⟨rfl, rfl, rfl⟩)) rfl rfl))
  · exact h.run (.sews active active (.inl ⟨rfl, rfl, rfl⟩) rfl rfl)

theorem Does.inProgress (h : Does sure s0 s) (k : RevKind) : Does sure s0 (s.inProgress k) := h.aside rfl

theorem Does.sewingMove (h : Does sure s0 s) (e : Entry) : Does sure s0 (s.sewingMove e) := Does.ite (h.aside rfl) h

theorem Does.beginPoint (h : Does sure s0 s) (e : Entry) (rest : List Entry) (active : s.run.state.active = true)
    (ready : s.shaft.state = .turning ∨ s.shaft.vPrev = s.config.speedMin) : Does sure s0 (s.beginPoint e rest) :=
  (((h.commitSpeed e rest ready).take e rest active).inProgress e.revKind).sewingMove e

theorem Does.takeStationary (h : Does sure s0 s) (e : Entry) (rest : List Entry)
    (active : s.run.state.active = true) : Does sure s0 (s.takeStationary e rest) := by
  have taken := (h.aside (t := s.commitCap) rfl).take e rest active
  exact ((taken.aside (t := (s.commitCap.take e rest).latchesOff) rfl).aside rfl).aside rfl

theorem Does.penetrationRevolution (h : Does sure s0 s) (k : RevKind) : Does sure s0 (s.penetrationRevolution k) :=
  (h.slowed.commitSpeed _ _ (.inr rfl)).inProgress k

theorem Does.completeCutJump (h : Does sure s0 s) : Does sure s0 s.completeCutJump := by
  unfold State.completeCutJump
  split
  · exact h
  · exact Does.ite (h.aside rfl) h

theorem Does.dealRecord (h : Does sure s0 s) (e : Entry) (rest : List Entry) (sewing : s.sewing = true) :
    Does sure s0 (s.dealRecord e rest) := by
  have active := State.active_of_sewing sewing
  unfold State.dealRecord
  dsimp only
  repeat' split
  · exact h.enterStopped _ (State.unbacked_of_sewing sewing)
  · exact h
  · exact h.slowed.takeStationary e rest active
  · exact h.slowed.beginPoint e rest active (.inr rfl)

theorem Does.dealEntry (h : Does sure s0 s) (e : Entry) (rest : List Entry) (sewing : s.sewing = true) :
    Does sure s0 (s.dealEntry e rest) := by
  have active := State.active_of_sewing sewing
  have unbacked := State.unbacked_of_sewing sewing
  have blockEnd : Does sure s0 s.blockEndStop :=
    (h.aside (t := { s with run := { s.run with blockEnd := true } }) rfl).enterStopped _ unbacked
  have limit : Does sure s0 (s.limitStop e) := (h.openCause ..).enterStopped _ unbacked
  unfold State.dealEntry
  split
  · exact Does.ite blockEnd (h.beginChange e _ active)
  · exact Does.ite blockEnd (h.endRun ..)
  · exact (h.run (t := { s with queue := rest, run := { s.run with chain := some e.pos } })
      (.sews active active (.inl ⟨rfl, rfl, rfl⟩) rfl rfl)).enterStopped _ unbacked
  · exact (h.openCause ..).enterStopped _ unbacked
  all_goals exact Does.ite limit (h.dealRecord e rest sewing)

theorem Does.dealHead (h : Does sure s0 s) (sewing : s.sewing = true) : Does sure s0 s.dealHead := by
  unfold State.dealHead
  split
  · exact Does.ite (h.enterStopped _ (State.unbacked_of_sewing sewing)) h
  · exact h.dealEntry _ _ sewing

theorem Does.dealHeads (fuel : Nat) (h : Does sure s0 s) : Does sure s0 (State.dealHeads fuel s) := by
  induction fuel generalizing s with
  | zero => exact h
  | succ fuel ih =>
    unfold State.dealHeads
    split
    · rename_i readable
      have dealt := h.dealHead (State.sewing_of_headReadable readable)
      exact Does.ite (ih dealt) dealt
    · exact h

theorem Does.takeQuickStop (h : Does sure s0 s) : Does sure s0 s.takeQuickStop := by
  unfold State.takeQuickStop
  split
  · rename_i stops
    simp only [Bool.and_eq_true] at stops
    exact h.enterStopped _ (State.unbacked_of_sewing stops.1.1)
  · exact h

theorem Does.whenStill (h : Does sure s0 s) : Does sure s0 s.whenStill :=
  Does.ite h.completeCutJump.takeQuickStop (h.completeCutJump.dealHeads _)

theorem Does.arbitrate (h : Does sure s0 s) : Does sure s0 s.arbitrate :=
  h.aside (by simp [State.watched, State.tableView, State.shaftView, State.runView])

theorem Does.settle (h : Does sure s0 s) : Does sure s0 s.settle := h.whenStill.arbitrate

/-! ## The feed -/

theorem Does.processCall (h : Does sure s0 s) (p : Position) (motif : Design) (reps : Nat)
    (filling : s.feed.activity = .filling) : Does sure s0 (s.processCall p motif reps) := by
  unfold State.processCall
  split
  · exact h.run (.fills filling rfl ⟨rfl, rfl, rfl⟩ rfl rfl ⟨rfl, rfl⟩)
  · have visited : Does sure s0
        (State.fetchAt (p.enter s.len motif reps) { s with run := s.run.visit motif }) := by
      have same : (s.run.visit motif) = { s.run with visited := (s.run.visit motif).visited } := by
        unfold Run.visit; split <;> rfl
      rw [same]
      exact h.run (.fills filling rfl ⟨rfl, rfl, rfl⟩ rfl rfl ⟨rfl, rfl⟩)
    unfold State.clearRecordFault
    split
    · exact visited
    · exact Does.ite (visited.clearCause _) visited

theorem Does.joinAt (h : Does sure s0 s) (k : EntryKind) (p q : Position) (filling : s.feed.activity = .filling) :
    Does sure s0 ((s.join k p).fetchAt q) :=
  h.run (.fills filling rfl ⟨rfl, rfl, rfl⟩ rfl rfl ⟨rfl, rfl⟩)

theorem Does.feedRecords (rs : List Record) (h : Does sure s0 s) (filling : s.feed.activity = .filling) :
    Does sure s0 (State.feedRecords rs s) := by
  induction rs generalizing s with
  | nil => exact h
  | cons r rs ih =>
    unfold State.feedRecords
    cases r with
    | call motif reps => exact h.processCall _ motif reps filling
    | endRec => exact h.run (.fills filling rfl ⟨rfl, rfl, rfl⟩ rfl rfl ⟨rfl, rfl⟩)
    | _ => exact ih (h.joinAt _ _ _ filling) filling

/-! ## The walk -/

theorem Does.traceBack (h : Does sure s0 s) {w : Walk} (p : Position) (d : Point) (walk : s.walk = some w)
    (dir : w.dir = .backward) (path : s.feed.activity ≠ .idle ∨ s.run.resume ≠ none) (clamp : sure → s.clampOpen w) :
    Does sure s0 (s.traceBack w p d) :=
  h.run (.walks path rfl rfl rfl rfl w _ walk rfl rfl (.inr ⟨clamp, rfl, rfl, rfl, by rw [dir]; rfl⟩))

theorem Does.traceForward (h : Does sure s0 s) {w : Walk} (p : Position) (d : Point) (walk : s.walk = some w)
    (dir : w.dir = .forward) (path : s.feed.activity ≠ .idle ∨ s.run.resume ≠ none) (clamp : sure → s.clampOpen w) :
    Does sure s0 (s.traceForward w p d) :=
  Does.rejoin (h.run (.walks path rfl rfl rfl rfl w _ walk rfl rfl (.inr ⟨clamp, rfl, rfl, rfl, by rw [dir]⟩)))

/-- A walk whose test before a step lets it go on has not reached its clamp. -/
theorem State.clampOpen_of_not_finished {w : Walk} (h : ¬s.walkFinished w = true) : s.clampOpen w := by
  revert h
  unfold State.walkFinished State.clampOpen
  cases w.dir <;> simp

theorem Does.walkOn (fuel : Nat) (p : Option Position) (h : Does sure s0 s)
    (path : p ≠ none → s.feed.activity ≠ .idle ∨ s.run.resume ≠ none)
    (clamp : p ≠ none → ∀ w, s.walk = some w → sure → s.clampOpen w) :
    Does sure s0 (State.walkOn fuel p s) := by
  induction fuel generalizing p s with
  | zero => exact h.endWalk
  | succ fuel ih =>
    cases p with
    | none =>
      unfold State.walkOn
      split
      · rename_i w r walk resume
        split
        · exact h.endWalk
        · rename_i open_
          have clamp : ∀ v, s.walk = some v → sure → s.clampOpen v := fun v hv _ => by
            obtain rfl : w = v := Option.some.inj (walk.symm.trans hv)
            exact State.clampOpen_of_not_finished open_
          have path : s.feed.activity ≠ .idle ∨ s.run.resume ≠ none := .inr (by simp [resume])
          repeat' split
          · exact ih _ h (fun _ => path) fun _ => clamp
          · exact h.endWalk
          · exact ih _ h (fun _ => path) fun _ => clamp
      · exact h.endWalk
    | some p =>
      have path := path nofun
      unfold State.walkOn
      split
      · exact h.endWalk
      · rename_i w walk
        have clamp := clamp nofun w walk
        split
        · exact h.run (.walks path rfl rfl rfl rfl w _ walk rfl rfl (.inl ⟨⟨rfl, rfl, rfl⟩, fun _ => clamp⟩))
        · rename_i r _
          split
          · exact h.endWalk
          · rename_i q _
            unfold State.walkTo
            split
            · exact ih _ h (fun _ => path) fun _ v hv => by
                obtain rfl : w = v := Option.some.inj (walk.symm.trans hv)
                exact clamp
            · refine ih _ (h.run (.walks path rfl rfl rfl rfl w w walk walk rfl (.inl ⟨⟨rfl, rfl, rfl⟩, fun _ => clamp⟩)))
                (fun _ => .inr nofun) fun _ v hv => by
                  obtain rfl : w = v := Option.some.inj (walk.symm.trans hv)
                  exact clamp
          · rename_i d _
            have traced : Does sure s0 (match w.dir with
                | .backward => s.traceBack w p d
                | .forward => s.traceForward w p d) := by
              split
              · rename_i dir; exact h.traceBack p d walk dir path clamp
              · rename_i dir; exact h.traceForward p d walk dir path clamp
            exact Does.ite traced (ih none traced (fun h => absurd rfl h) fun h => absurd rfl h)

theorem Does.walkFrom (h : Does sure s0 s) (fuel : Nat) : Does sure s0 (State.walkOn fuel none s) :=
  h.walkOn fuel none (fun h => absurd rfl h) fun h => absurd rfl h

theorem Does.beginWalk (h : Does sure s0 s) (dir : WalkDir) (n : Nat) (stopped : s.run.state = .stopped) :
    Does sure s0 (s.beginWalk dir n) := by
  refine Does.walkFrom ?_ _
  refine h.run (.turnsBack stopped rfl rfl rfl ⟨rfl, rfl, rfl⟩ ?_ rfl)
  rintro w ⟨⟩
  rfl

theorem Does.walkRead (h : Does sure s0 s) (first : Nat) (words : List Word) (walking : s.feed.activity = .walking)
    (clamp : sure → ∀ w, s.walk = some w → w.want ≠ none → s.clampOpen w) : Does sure s0 (s.walkRead first words) := by
  have path : s.feed.activity ≠ .idle := by simp [walking]
  unfold State.walkRead
  split
  · exact h
  · rename_i w walk
    split
    · exact h
    · rename_i p want
      have open_ : sure → s.clampOpen w := fun hs => clamp hs w walk (by simp [want])
      refine Does.walkOn _ _ (h.run (.walks (.inl path) rfl rfl rfl rfl w _ walk rfl rfl
        (.inl ⟨⟨rfl, rfl, rfl⟩, fun hw => absurd rfl hw⟩))) (fun _ => .inl path) ?_
      rintro - v ⟨⟩
      exact open_

theorem Does.cutWalk (h : Does sure s0 s) (r : StopReason) : Does sure s0 (s.cutWalk r) :=
  have cut : Does sure s0 { s with run := { s.run with pendingStop := true, reason := r } } := h.aside rfl
  Does.ite cut cut.endWalk

theorem Does.traceComplete (h : Does sure s0 s) : Does sure s0 s.traceComplete := Does.ite h.endWalk (h.walkFrom _)

/-! ## The requests -/

theorem Link.place_runChange (r : Reply) (l : Link) : (l.place r).runChange = l.runChange := by
  unfold Link.place; split <;> rfl

theorem Link.byteArrives_runChange (b : Byte) (l : Link) : (l.byteArrives b).runChange = l.runChange := by
  unfold Link.byteArrives
  dsimp only
  repeat' split
  all_goals rfl

theorem Does.link (h : Does sure s0 s) (l : Link) (flag : l.runChange = s.link.runChange) :
    Does sure s0 { s with link := l } :=
  h.aside (by simp [State.watched, State.tableView, State.shaftView, State.runView, flag])

theorem Does.reply (h : Does sure s0 s) (code : Byte) (st : Status) (p : Payload) : Does sure s0 (s.reply code st p) :=
  h.link _ (Link.place_runChange ..)

theorem Does.refuse (h : Does sure s0 s) (code : Byte) (st : Status) : Does sure s0 (s.refuse code st) := h.reply ..

theorem Does.frameArrives (h : Does sure s0 s) (c : Instr) : Does sure s0 (s.frameArrives c) := by
  unfold State.frameArrives
  split
  · exact h
  · exact h.link _ (foldl_keeps Link.runChange _ (fun l b => Link.byteArrives_runChange b l) _ _)

/-- A request does what its work does, or its frame waits. -/
theorem Does.takeFrame (h : Does sure s0 s) (c : Instr) {act : State → State}
    (work : ∀ l : Link, Does sure s0 { s with link := l } → Does sure s0 (act { s with link := l })) :
    Does sure s0 (s.takeFrame c act) := by
  unfold State.takeFrame
  split
  · split
    · exact work s.link h
    · exact Does.ite (work _ (h.link _ rfl)) (h.frameArrives c)
  · exact h.frameArrives c

/-- A request with checks is refused, or they pass and its work is done. -/
theorem Does.checked (h : Does sure s0 s) (code : Byte) {checks : List (Bool × Status)} {act : State → State}
    (work : (∀ x ∈ checks, x.1 = true) → Does sure s0 (act s)) : Does sure s0 (s.checked code checks act) := by
  unfold State.checked
  split
  · exact h.refuse ..
  · rename_i passed
    exact work (firstRefusal_eq_none.1 passed)

theorem Does.noArgument (h : Does sure s0 s) (code : Byte) (p : List Byte) {act : State → State}
    (work : Does sure s0 (act s)) : Does sure s0 (s.noArgument code p act) := by
  unfold State.noArgument
  split
  · exact work
  · exact h.refuse ..

theorem Does.oneDesign (h : Does sure s0 s) (code : Byte) (p : List Byte) {act : Design → State → State}
    (work : ∀ d, Does sure s0 (act d s)) : Does sure s0 (s.oneDesign code p act) := by
  unfold State.oneDesign
  repeat' split
  · exact work _
  · exact h.refuse ..
  · exact h.refuse ..

/-! ## The requests on conditions and designs (chapters 1, 2 and 10) -/

theorem Does.performNextCondition (h : Does sure s0 s) (p : List Byte) : Does sure s0 (performNextCondition p s) := by
  refine h.noArgument _ _ ?_
  split
  · exact h.reply ..
  · exact (h.acknowledge _).reply ..

theorem Does.performListConditions (h : Does sure s0 s) (p : List Byte) :
    Does sure s0 (performListConditions p s) := by
  unfold Machine.performListConditions
  repeat' split
  · exact h.reply ..
  · exact h.refuse ..
  · exact h.refuse ..

theorem Does.performAckCondition (h : Does sure s0 s) (p : List Byte) : Does sure s0 (performAckCondition p s) := by
  unfold Machine.performAckCondition State.ackFor
  repeat' split
  · exact h.refuse ..
  · exact h.refuse ..
  · exact (h.acknowledge _).reply ..
  · exact h.refuse ..

theorem Does.setDesign (h : Does sure s0 s) (d : Design) (x : Descriptor) : Does sure s0 (s.setDesign d x) :=
  h.aside rfl

theorem Does.performLoadOpen (h : Does sure s0 s) (p : List Byte) : Does sure s0 (performLoadOpen p s) := by
  unfold Machine.performLoadOpen State.loadOpenFor
  split
  · split
    · exact h.refuse ..
    · refine h.checked _ fun _ => ?_
      split
      · exact h
      · refine Does.reply ?_ ..
        exact h.aside rfl
  · exact h.refuse ..

theorem Does.performLoadData (h : Does sure s0 s) (p : List Byte) : Does sure s0 (performLoadData p s) := by
  unfold Machine.performLoadData State.loadDataFor State.offerChunk
  repeat' split
  all_goals first
    | exact h.refuse ..
    | exact h.reply ..
    | (refine Does.arbitrate (Does.reply ?_ ..); exact h.aside rfl)

theorem Does.endLoad (h : Does sure s0 s) (d : Design) (x : Descriptor) : Does sure s0 (s.endLoad d x) :=
  (h.aside (t := { s.setDesign d x with load := none }) rfl).aside rfl

theorem Does.performLoadClose (h : Does sure s0 s) (p : List Byte) : Does sure s0 (performLoadClose p s) := by
  unfold Machine.performLoadClose State.loadCloseFor State.closeLoad
  repeat' split
  all_goals first
    | exact h.refuse ..
    | exact (h.endLoad ..).reply ..

theorem Does.performLoadCancel (h : Does sure s0 s) (p : List Byte) : Does sure s0 (performLoadCancel p s) := by
  refine h.oneDesign _ _ fun d => ?_
  unfold State.loadCancelFor
  split
  · exact h.refuse ..
  · exact (h.endLoad ..).reply ..

theorem Does.performReadRecords (h : Does sure s0 s) (p : List Byte) : Does sure s0 (performReadRecords p s) := by
  unfold Machine.performReadRecords State.readRecordsFor
  repeat' split
  · exact h.refuse ..
  · refine h.checked _ fun _ => Does.arbitrate ?_
    exact h.link _ rfl
  · exact h.refuse ..

theorem Does.performRetire (h : Does sure s0 s) (p : List Byte) : Does sure s0 (performRetire p s) :=
  h.oneDesign _ _ fun _ => h.checked _ fun _ => (h.setDesign ..).reply ..

theorem Does.performLocking (h : Does sure s0 s) (code : Byte) (v : Bool) (p : List Byte) :
    Does sure s0 (s.oneDesign code p (State.lockFor code v)) :=
  h.oneDesign _ _ fun _ => h.checked _ fun _ => (h.setDesign ..).reply ..

/-! ## The requests on the frame, the shaft, the needles and the heads (chapters 5 to 8) -/

theorem Does.performHome (h : Does sure s0 s) (p : List Byte) : Does sure s0 (performHome p s) :=
  h.noArgument _ _ (h.checked _ fun _ => (h.aside (t := { s with frame := s.frame.beginHoming s.config }) rfl).reply ..)

theorem Does.performFrameMove (h : Does sure s0 s) (p : List Byte) : Does sure s0 (performFrameMove p s) := by
  unfold Machine.performFrameMove
  split
  · exact h.checked _ fun _ => (h.aside (t := s.beginMove .host _) rfl).reply ..
  · exact h.refuse ..

theorem Does.toTdc (h : Does sure s0 s) : Does sure s0 s.toTdc :=
  Does.ite h (h.shaft (t := { s with
    shaft := { s.shaft with state := .positioning, command := s.config.speedMin, enable := true } })
    (.crawls rfl rfl nofun)).bandCheck

theorem Does.performShaftToTdc (h : Does sure s0 s) (p : List Byte) : Does sure s0 (performShaftToTdc p s) :=
  h.noArgument _ _ (h.checked _ fun _ => h.toTdc.reply ..)

theorem Does.performAssign (h : Does sure s0 s) (p : List Byte) : Does sure s0 (performAssign p s) := by
  unfold Machine.performAssign State.assignFor
  repeat' split
  · exact h.refuse ..
  · exact h.checked _ fun _ => (h.aside (t := s.setThread _ _) rfl).reply ..
  · exact h.refuse ..

theorem Does.performClearNeedle (h : Does sure s0 s) (p : List Byte) : Does sure s0 (performClearNeedle p s) := by
  unfold Machine.performClearNeedle State.clearNeedleFor
  repeat' split
  · exact h.refuse ..
  · exact h.checked _ fun _ => (h.aside (t := s.setThread _ _) rfl).reply ..
  · exact h.refuse ..

theorem Does.setNeedleState (h : Does sure s0 s) (n : Needle) (i : Head) (v : NeedleState) :
    Does sure s0 (s.setNeedleState n i v) := by
  unfold State.setNeedleState
  refine Does.ite h (Does.testThreadBreaks ?_)
  exact h.aside rfl

theorem Does.performSpool (h : Does sure s0 s) (p : List Byte) : Does sure s0 (performSpool p s) := by
  unfold Machine.performSpool State.spoolFor
  repeat' split
  · exact h.checked _ fun _ => (h.setNeedleState ..).reply ..
  · exact h.refuse ..
  · exact h.refuse ..

theorem Does.performSelectNeedle (h : Does sure s0 s) (p : List Byte) : Does sure s0 (performSelectNeedle p s) := by
  unfold Machine.performSelectNeedle State.selectFor
  repeat' split
  · exact h.refuse ..
  · refine h.checked _ fun _ => Does.reply ?_ ..
    exact Does.ite (h.carriageDone _) (h.aside rfl)
  · exact h.refuse ..

theorem Does.enableHead (h : Does sure s0 s) (mask : Half) (i : Head) : Does sure s0 (s.enableHead mask i) := by
  unfold State.enableHead
  dsimp only
  exact Does.ite (Does.ite (h.setHead ..) h) (Does.ite h ((h.setHead ..).clearCause _))

theorem Does.setEnable (h : Does sure s0 s) (mask : Half) : Does sure s0 (s.setEnable mask) :=
  (Does.foldl (fun t i => State.enableHead mask i t) (fun _ _ ht => ht.enableHead ..) allHeads
    (h.aside (t := { s with enable := mask }) rfl)).testThreadBreaks

theorem Does.performHeadEnable (h : Does sure s0 s) (p : List Byte) : Does sure s0 (performHeadEnable p s) := by
  unfold Machine.performHeadEnable
  split
  · exact h.checked _ fun _ => (h.setEnable _).reply ..
  · exact h.refuse ..

theorem Does.performMend (h : Does sure s0 s) (p : List Byte) : Does sure s0 (performMend p s) := by
  unfold Machine.performMend State.mendFor
  repeat' split
  · exact h.refuse ..
  · exact h.refuse ..
  · exact h.checked _ fun _ => (h.setNeedleState ..).reply ..
  · exact h.refuse ..

theorem Does.performBobbinChanged (h : Does sure s0 s) (p : List Byte) : Does sure s0 (performBobbinChanged p s) := by
  unfold Machine.performBobbinChanged
  repeat' split
  · exact h.refuse ..
  · exact ((h.setHead ..).clearCause _).reply ..
  · exact h.refuse ..

/-! ## The requests of run control (chapter 9) -/

theorem Does.performStart (h : Does sure s0 s) (p : List Byte) : Does sure s0 (performStart p s) := by
  refine h.oneDesign _ _ fun d => h.checked _ fun passed => Does.settle (Does.reply (Does.placeHeads ?_ _) ..)
  have idle : s.run.state = .idle := by
    simpa [State.runExists] using passed _ (List.mem_cons_self ..)
  have begun : Does sure s0 { s with
      run := s.run.begin d s.carriagePosition
      feed := { activity := .filling, blocked := false, fetch := Position.main d 0 } } :=
    h.run (.starts (by simp [idle]) rfl (.inr ⟨rfl, rfl, rfl⟩) rfl rfl)
  exact begun.slowed

theorem Does.beginResidual (h : Does sure s0 s) : Does sure s0 s.beginResidual := by
  unfold State.beginResidual
  split
  · exact h
  · exact h.aside rfl

theorem Does.performResume (h : Does sure s0 s) (p : List Byte) : Does sure s0 (performResume p s) := by
  refine h.noArgument _ _ (h.checked _ fun passed => Does.settle (Does.reply (Does.beginResidual (Does.placeHeads ?_ _)) ..))
  have held : s.run.state.held = true := passed _ (List.mem_cons_self ..)
  have begun : Does sure s0 { s with
      run := { s.run with state := .running, reason := .none, resume := none }
      feed := { activity := .filling, blocked := false, fetch := s.run.resume.getD s.feed.fetch } } :=
    h.run (.starts (fun e => by rw [e] at held; cases held) rfl (.inl ⟨rfl, rfl, rfl⟩) rfl rfl)
  exact begun.slowed

theorem Does.stopRun (h : Does sure s0 s) (r : StopReason) : Does sure s0 (s.stopRun r) := by
  unfold State.stopRun
  split
  case h_4 => exact Does.ite h (h.cutWalk r)
  all_goals first
    | exact h.requestStop r
    | exact h

theorem Does.performStop (h : Does sure s0 s) (p : List Byte) : Does sure s0 (performStop p s) :=
  h.noArgument _ _ (h.checked _ fun _ => ((h.stopRun _).reply ..).settle)

theorem Does.brake (h : Does sure s0 s) : Does sure s0 s.brake :=
  have braked : Does sure s0 { s with shaft := { s.shaft with state := .braking, command := 0 } } :=
    h.shaft (.unwound rfl nofun)
  Does.ite (Does.ite braked.comeToRest braked) h

theorem Does.quickStopRun (h : Does sure s0 s) : Does sure s0 s.quickStopRun := by
  have sewing (active : s.run.state.active = true) : Does sure s0 s.quickStopSewing := by
    unfold State.quickStopSewing
    refine Does.ite h (Does.brake ?_)
    exact h.run (.sews active rfl (.inl ⟨rfl, rfl, rfl⟩) rfl rfl)
  unfold State.quickStopRun
  split
  · rename_i e; exact sewing (by rw [e]; rfl)
  · rename_i e; exact sewing (by rw [e]; rfl)
  · rename_i e
    have pending : Does sure s0 { s with run := { s.run with pendingStop := true, reason := .quickStop } } := h.aside rfl
    have unbacked : s.run.state ≠ .backing := by simp [e]
    unfold State.quickStopChange
    dsimp only
    split
    · exact pending
    · exact pending.abandonChange unbacked
    · exact pending.abandonChange unbacked
  · exact h.cutWalk _
  all_goals exact h

theorem Does.performQuickStop (h : Does sure s0 s) (p : List Byte) : Does sure s0 (performQuickStop p s) :=
  h.noArgument _ _ (h.checked _ fun _ => (h.quickStopRun.reply ..).settle)

theorem Does.performAbort (h : Does sure s0 s) (p : List Byte) : Does sure s0 (performAbort p s) :=
  h.noArgument _ _ (h.checked _ fun _ => (h.endRun ..).reply ..)

theorem Does.walkRequest (h : Does sure s0 s) (code : Byte) (dir : WalkDir) (p : List Byte) :
    Does sure s0 (s.walkRequest code dir p) := by
  unfold State.walkRequest
  split
  · refine h.checked _ fun passed => ((h.beginWalk dir _ ?_).reply ..).arbitrate
    simpa using passed (decide (s.run.state = .stopped), .wrongState) (by simp [State.walkChecks])
  · exact h.refuse ..

theorem Does.performSetSpeed (h : Does sure s0 s) (p : List Byte) : Does sure s0 (performSetSpeed p s) := by
  unfold Machine.performSetSpeed
  split
  · refine Does.reply ?_ ..
    exact h.aside rfl
  · exact h.refuse ..

/-! ## The requests on the link (chapter 11) -/

theorem Does.flawReply (h : Does sure s0 s) (flaw : FrameFlaw) : Does sure s0 (flawReply flaw s) := by
  unfold Machine.flawReply
  split <;> exact h.refuse ..

theorem Does.performReset (h : Does sure s0 s) (p : List Byte) : Does sure s0 (performReset p s) :=
  h.noArgument _ _ ((h.reply ..).link _ rfl)

/-- A configuration put in force with the shaft STILL, in range (R198). -/
theorem Does.configure (h : Does sure s0 s) (cfg : Configuration) (range : cfg.inRange = true)
    (still : s.shaft.state = .still) : Does sure s0 (s.configure cfg) :=
  h.step (.configures range still rfl rfl rfl rfl)

theorem Does.performConfigure (h : Does sure s0 s) (p : List Byte)
    (range : ∀ v, fieldValues fieldShapes p = some v → firstBadField v = none → (configurationOf v).inRange = true) :
    Does sure s0 (performConfigure p s) := by
  unfold Machine.performConfigure
  split
  · exact h.refuse ..
  · rename_i values read
    refine h.checked _ fun passed => ?_
    unfold State.configureFields
    split
    · exact h.reply ..
    · rename_i good
      refine (h.configure _ (range values read good) ?_).reply ..
      have still := passed _ (List.mem_cons_of_mem _ (List.mem_cons_of_mem _ (List.mem_cons_self ..)))
      simp only [Bool.and_eq_true, decide_eq_true_eq] at still
      exact still.2

/-! ## The events -/

theorem Link.sendByte_runChange (l : Link) : l.sendByte.runChange = l.runChange := by
  unfold Link.sendByte
  repeat' split
  all_goals rfl

theorem Link.sendBytes_runChange (k : Nat) (l : Link) : (l.sendBytes k).runChange = l.runChange := by
  induction k generalizing l with
  | zero => rfl
  | succ k ih => exact (ih _).trans l.sendByte_runChange

theorem Link.placeWaiting_runChange (l : Link) : l.placeWaiting.runChange = l.runChange := by
  unfold Link.placeWaiting
  split
  · rfl
  · exact (Link.place_runChange ..).trans (Link.sendBytes_runChange ..)

theorem Does.moveReported (h : Does sure s0 s) (k : MoveKind) : Does sure s0 (s.moveReported k) := by
  have stationary : Does sure s0 s.stationaryComplete := by
    unfold State.stationaryComplete
    repeat' split
    · exact h
    · exact h.aside rfl
    · exact h.aside rfl
    · exact h.penetrationRevolution _
  unfold State.moveReported
  split
  · exact h.whenStill
  · exact stationary.whenStill
  · exact h.traceComplete
  · exact h.whenStill
  · exact h

theorem State.clearStall_shaft : s.clearStall.shaft = s.shaft := by
  unfold State.clearStall; split <;> simp

theorem State.clearStall_run : s.clearStall.run = s.run := by
  unfold State.clearStall; split <;> simp

theorem Does.clearStall (h : Does sure s0 s) : Does sure s0 s.clearStall := Does.ite (h.clearCause _) h

/-- The shaft's motion, which the completion of a record leaves alone. -/
def State.shaftMotion (s : State) : ShaftState × Nat := (s.shaft.state, s.shaft.vPrev)

theorem State.requestStop_shaftMotion (r : StopReason) : (s.requestStop r).shaftMotion = s.shaftMotion := by
  rw [State.requestStop_eq]; rfl

theorem State.breakHead_shaftMotion (i : Head) (c : BreakCause) : (s.breakHead i c).shaftMotion = s.shaftMotion := by
  simp only [State.breakHead]
  split
  · rw [State.requestStop_shaftMotion]
    simp [State.shaftMotion, State.openThreadBreak]
  · simp [State.shaftMotion, State.openThreadBreak]

theorem State.testBobbin_shaftMotion (i : Head) : (s.testBobbin i).shaftMotion = s.shaftMotion := by
  simp only [State.testBobbin]
  repeat' split
  · exact s.breakHead_shaftMotion i _
  all_goals rfl

theorem State.testHead_shaftMotion (i : Head) : (s.testHead i).shaftMotion = s.shaftMotion := by
  simp only [State.testHead]
  repeat' split
  · exact s.breakHead_shaftMotion i _
  · exact (State.testBobbin_shaftMotion i).trans rfl
  · exact s.testBobbin_shaftMotion i

theorem State.quietHead_shaftMotion (i : Head) : (s.quietHead i).shaftMotion = s.shaftMotion := by
  simp only [State.quietHead]
  repeat' split
  all_goals simp [State.shaftMotion]

theorem State.chargeHead_shaftMotion (k : RevKind) (i : Head) : (s.chargeHead k i).shaftMotion = s.shaftMotion := by
  have set (t : State) (r : HeadRecord) : (t.setHead i r).shaftMotion = t.shaftMotion := rfl
  simp only [State.chargeHead]
  repeat' split
  all_goals simp only [set, State.quietHead_shaftMotion, State.testHead_shaftMotion]

theorem State.completeRecord_shaftMotion : s.completeRecord.shaftMotion = s.shaftMotion := by
  have charged (a : Active) (t : State) : (t.chargeHeads a).shaftMotion = t.shaftMotion := by
    have folded := foldl_keeps State.shaftMotion (fun s i => if a.pen.get i then s.chargeHead a.kind i else s)
      (fun t i => by split <;> [exact t.chargeHead_shaftMotion _ i; rfl]) allHeads t
    simp only [State.chargeHeads, State.noHeadsTest]
    repeat' split
    all_goals first
      | exact folded
      | exact (State.requestStop_shaftMotion _).trans folded
  simp only [State.completeRecord]
  repeat' split
  · rfl
  · exact charged _ _
  · rfl

theorem Does.beginOrPark (h : Does sure s0 s) (turning : s.shaft.state = .turning) : Does sure s0 s.beginOrPark := by
  unfold State.beginOrPark
  split
  · exact h.park turning
  · split
    · rename_i begins
      simp only [Bool.and_eq_true] at begins
      exact h.beginPoint _ _ (State.active_of_sewing begins.1.1) (.inl turning)
    · exact h.park turning

theorem Does.windowOpen (h : Does sure s0 s) : Does sure s0 s.windowOpen := by
  have done := h.clearStall.completeRecord
  unfold State.windowOpen
  dsimp only
  split
  · rename_i turning
    refine done.beginOrPark ?_
    have kept := congrArg Prod.fst (State.completeRecord_shaftMotion (s := s.clearStall))
    exact kept.trans ((congrArg Shaft.state State.clearStall_shaft).trans turning)
  · exact done
  · exact done.bandCheck
  all_goals exact h.clearStall

theorem Does.windowClose (h : Does sure s0 s) : Does sure s0 s.windowClose := by
  have overrun : Does sure s0 s.overrun := Does.ite (h.aside rfl) h
  unfold State.windowClose State.fireTrimmers
  split
  · exact overrun
  · exact Does.ite (overrun.aside rfl) overrun

theorem Does.turnTo (h : Does sure s0 s) (c : BitVec 10) (x : Bool) : Does sure s0 (s.turnTo c x) :=
  have turned : Does sure s0 { s with shaft := { s.shaft with angle := c, atRest := false, crossed := x } } :=
    h.aside rfl
  Does.bandCheck (Does.ite turned.shaftMoved turned)

theorem Does.loaderBurst (h : Does sure s0 s) (b : Burst) : Does sure s0 (s.loaderBurst b) :=
  have stored : Does sure s0 { s with store := writeRegion s.store b.base b.first b.records } :=
    h.step (.stores _ _ _ rfl)
  Does.ite stored (stored.aside rfl)

theorem Does.readbackBurst (h : Does sure s0 s) (words : List Word) : Does sure s0 (s.readbackBurst words) := by
  unfold State.readbackBurst
  split
  · exact h
  · refine Does.ite (h.link _ rfl) (Does.reply ?_ ..)
    exact h.link _ rfl

theorem Does.feedBurst (h : Does sure s0 s) (b : Burst) (words : List Word) (records : List Record)
    (clamp : sure → ∀ w, s.walk = some w → w.want ≠ none → s.clampOpen w) :
    Does sure s0 (s.feedBurst b words records) := by
  unfold State.feedBurst
  split
  · rename_i filling; exact h.feedRecords _ filling
  · rename_i walking; exact h.walkRead _ _ walking clamp
  · exact h
  · exact h

theorem Does.burstResult (h : Does sure s0 s) (b : Burst) (hr : s.burstResult b = .next t)
    (clamp : sure → ∀ w, s.walk = some w → w.want ≠ none → s.clampOpen w) : Does sure s0 t := by
  unfold State.burstResult at hr
  split at hr
  · cases hr; exact h.loaderBurst b
  · split at hr <;> cases hr
    · exact h
    · exact h.readbackBurst _
  · split at hr
    · cases hr; exact h
    · dsimp only at hr
      split at hr <;> cases hr
      exact h.feedBurst b _ _ clamp

theorem Does.burstComplete (h : Does sure s0 s) (hx : execBurstComplete s = .next t)
    (clamp : sure → ∀ w, s.walk = some w → w.want ≠ none → s.clampOpen w) : Does sure s0 t := by
  unfold execBurstComplete at hx
  split at hx
  · cases hx; exact h
  · split at hx
    · rename_i b _ _
      have freed : Does sure s0 { s with burst := none } := h.aside rfl
      cases result : State.burstResult b { s with burst := none } <;> rw [result] at hx <;> cases hx
      exact (freed.burstResult b result clamp).settle
    · cases hx

end Deeds
end Sys2Proof.Machine
end

section
/-! PROOFS. Every command but STATUS, the two cold resets and the halt line's is made of deeds, and so is a step. -/

namespace Sys2Proof.Machine

variable {sure : Prop} {s0 s t : State}

theorem Does.execFrameAssembled (h : Does sure s0 s) (b : Byte) (hx : execFrameAssembled b s = .next t) :
    Does sure s0 t := by
  unfold Machine.execFrameAssembled at hx
  split at hx <;> cases hx
  · exact h.link _ (Link.byteArrives_runChange ..)
  all_goals exact h

theorem Does.execMoveComplete (h : Does sure s0 s) (hx : execMoveComplete s = .next t) : Does sure s0 t := by
  unfold Machine.execMoveComplete at hx
  split at hx <;> cases hx
  · exact ((h.aside (t := { s with frame := s.frame.complete s.config }) rfl).moveReported _).arbitrate
  all_goals exact h

theorem Does.execCarriageSettleEnd (h : Does sure s0 s) (hx : execCarriageSettleEnd s = .next t) :
    Does sure s0 t := by
  unfold Machine.execCarriageSettleEnd at hx
  split at hx <;> cases hx
  · exact h.settleEnd.settle
  all_goals exact h

theorem Does.execEncoderCountChange (h : Does sure s0 s) (c : BitVec 10) (hx : execEncoderCountChange c s = .next t) :
    Does sure s0 t := by
  unfold Machine.execEncoderCountChange at hx
  dsimp only at hx
  repeat' split at hx
  all_goals cases hx
  · exact h
  · exact (h.turnTo ..).windowOpen.arbitrate
  · exact (h.turnTo ..).windowClose
  · exact h.turnTo ..

theorem Does.execWindowOpenCrossing (h : Does sure s0 s) (hx : execWindowOpenCrossing s = .next t) :
    Does sure s0 t := by
  unfold Machine.execWindowOpenCrossing at hx
  dsimp only at hx
  split at hx <;> cases hx
  · exact h.aside rfl
  · exact (h.turnTo ..).windowOpen.arbitrate

theorem Does.execWindowCloseCrossing (h : Does sure s0 s) (hx : execWindowCloseCrossing s = .next t) :
    Does sure s0 t := by
  unfold Machine.execWindowCloseCrossing at hx
  dsimp only at hx
  split at hx <;> cases hx
  · exact h.aside rfl
  · exact (h.turnTo ..).windowClose

/-- The halt line becomes active, and the rest is made of deeds (R169). -/
theorem exec_haltLineActive_cases (hx : Machine.exec .haltLineActive s = .next t) :
    t = s ∨ Does sure { s with haltLine := true } t := by
  change execHaltLineActive s = .next t at hx
  unfold execHaltLineActive at hx
  split at hx <;> cases hx
  · exact .inl rfl
  · exact .inr ((Does.refl sure _).emergencyHalt _)

/-- A command is made of deeds, unless it clears the run-change flag, is a cold reset or makes the halt line active. -/
theorem Does.exec (h : Does sure s0 s) (c : Instr) (hx : exec c s = .next t) (status : ∀ p, c ≠ .status p)
    (power : c ≠ .powerOn) (pin : c ≠ .resetPin) (halt : c ≠ .haltLineActive)
    (clamp : sure → ∀ w, s.walk = some w → w.want ≠ none → s.clampOpen w) : Does sure s0 t := by
  cases c with
  | powerOn => exact absurd rfl power
  | resetPin => exact absurd rfl pin
  | status p => exact absurd rfl (status p)
  | linkReset => cases hx; exact h.step (.resets rfl)
  | frameAssembled b => exact h.execFrameAssembled b hx
  | frameGapTimeout => cases hx; exact h.link _ rfl
  | badFrame flaw => cases hx; exact h.takeFrame _ fun _ hl => hl.flawReply flaw
  | unknownCommand code p =>
    change execUnknownCommand code p s = .next t at hx
    unfold execUnknownCommand at hx
    split at hx <;> cases hx
    · exact h
    · exact h.takeFrame _ fun _ hl => hl.refuse ..
  | replyPlaced => cases hx; exact h.link _ (Link.placeWaiting_runChange _)
  | identify p => cases hx; exact h.takeFrame _ fun _ hl => hl.noArgument _ _ (hl.reply ..)
  | headStatus p => cases hx; exact h.takeFrame _ fun _ hl => hl.noArgument _ _ (hl.reply ..)
  | needleStatus p => cases hx; exact h.takeFrame _ fun _ hl => hl.noArgument _ _ (hl.reply ..)
  | readConfig p => cases hx; exact h.takeFrame _ fun _ hl => hl.noArgument _ _ (hl.reply ..)
  | configure p =>
    cases hx; exact h.takeFrame _ fun _ hl => hl.performConfigure p fun _ _ good => configurationOf_inRange good
  | reset p => cases hx; exact h.takeFrame _ fun _ hl => hl.performReset p
  | loadOpen p => cases hx; exact h.takeFrame _ fun _ hl => hl.performLoadOpen p
  | loadData p => cases hx; exact h.takeFrame _ fun _ hl => hl.performLoadData p
  | loadClose p => cases hx; exact h.takeFrame _ fun _ hl => hl.performLoadClose p
  | loadCancel p => cases hx; exact h.takeFrame _ fun _ hl => hl.performLoadCancel p
  | readRecords p => cases hx; exact h.takeFrame _ fun _ hl => hl.performReadRecords p
  | retire p => cases hx; exact h.takeFrame _ fun _ hl => hl.performRetire p
  | lock p => cases hx; exact h.takeFrame _ fun _ hl => hl.performLocking 0x16 true p
  | unlock p => cases hx; exact h.takeFrame _ fun _ hl => hl.performLocking 0x17 false p
  | describe p => cases hx; exact h.takeFrame _ fun _ hl => hl.oneDesign _ _ fun _ => hl.reply ..
  | listDesigns p => cases hx; exact h.takeFrame _ fun _ hl => hl.noArgument _ _ (hl.reply ..)
  | start p => cases hx; exact h.takeFrame _ fun _ hl => hl.performStart p
  | resume p => cases hx; exact h.takeFrame _ fun _ hl => hl.performResume p
  | stop p => cases hx; exact h.takeFrame _ fun _ hl => hl.performStop p
  | quickStop p => cases hx; exact h.takeFrame _ fun _ hl => hl.performQuickStop p
  | abort p => cases hx; exact h.takeFrame _ fun _ hl => hl.performAbort p
  | back p => cases hx; exact h.takeFrame _ fun _ hl => hl.walkRequest 0x25 .backward p
  | forward p => cases hx; exact h.takeFrame _ fun _ hl => hl.walkRequest 0x26 .forward p
  | setSpeed p => cases hx; exact h.takeFrame _ fun _ hl => hl.performSetSpeed p
  | home p => cases hx; exact h.takeFrame _ fun _ hl => hl.performHome p
  | frameMove p => cases hx; exact h.takeFrame _ fun _ hl => hl.performFrameMove p
  | shaftToTdc p => cases hx; exact h.takeFrame _ fun _ hl => hl.performShaftToTdc p
  | selectNeedle p => cases hx; exact h.takeFrame _ fun _ hl => hl.performSelectNeedle p
  | assign p => cases hx; exact h.takeFrame _ fun _ hl => hl.performAssign p
  | clearNeedle p => cases hx; exact h.takeFrame _ fun _ hl => hl.performClearNeedle p
  | spool p => cases hx; exact h.takeFrame _ fun _ hl => hl.performSpool p
  | mend p => cases hx; exact h.takeFrame _ fun _ hl => hl.performMend p
  | headEnable p => cases hx; exact h.takeFrame _ fun _ hl => hl.performHeadEnable p
  | bobbinChanged p => cases hx; exact h.takeFrame _ fun _ hl => hl.performBobbinChanged p
  | nextCondition p => cases hx; exact h.takeFrame _ fun _ hl => hl.performNextCondition p
  | listConditions p => cases hx; exact h.takeFrame _ fun _ hl => hl.performListConditions p
  | ackCondition p => cases hx; exact h.takeFrame _ fun _ hl => hl.performAckCondition p
  | burstComplete => exact h.burstComplete hx clamp
  | encoderCountChange c => exact h.execEncoderCountChange c hx
  | windowOpenCrossing => exact h.execWindowOpenCrossing hx
  | windowCloseCrossing => exact h.execWindowCloseCrossing hx
  | shaftAtRest =>
    change execShaftAtRest s = .next t at hx
    unfold execShaftAtRest at hx
    split at hx <;> cases hx
    · exact h
    · exact h.comeToRest.settle
  | moveComplete => exact h.execMoveComplete hx
  | homeSwitchActive axis => cases hx; exact h.aside rfl
  | homeTravelLimit axis => cases hx; exact h.aside rfl
  | carriageCodeChange code =>
    change execCarriageCodeChange code s = .next t at hx
    unfold execCarriageCodeChange at hx
    split at hx <;> cases hx
    · exact h
    · exact (h.codeChange _).settle
  | carriageStepTimeout => cases hx; exact h.stepTimeout
  | carriageSettleEnd => exact h.execCarriageSettleEnd hx
  | threadPulse i =>
    change execThreadPulse i s = .next t at hx
    unfold execThreadPulse at hx
    dsimp only at hx
    split at hx <;> cases hx
    · exact h.setHead ..
    · exact h
  | stopLineActive =>
    change execStopLineActive s = .next t at hx
    unfold execStopLineActive at hx
    split at hx <;> cases hx
    · exact h
    · exact ((h.aside (t := { s with stopLine := true }) rfl).stopRun _).settle
  | haltLineActive => exact absurd rfl halt
  | haltLineInactive =>
    change execHaltLineInactive s = .next t at hx
    unfold execHaltLineInactive at hx
    split at hx <;> cases hx
    · exact (h.step (.frees rfl)).settle
    · exact h
  | shaftStall =>
    change execShaftStall s = .next t at hx
    unfold execShaftStall at hx
    split at hx <;> cases hx
    · exact (h.openCause ..).emergencyHalt _
    · exact h
  | byteArrives b => cases hx; exact h.link _ (Link.byteArrives_runChange ..)
  | stopLineInactive => cases hx; exact h.aside rfl

/-- The RESET pin leaves the store canonical (log 8). -/
theorem State.wf_storeAfterPin (h : s.storeCanonical) : Memory.wf s.storeAfterPin.1 = true := by
  unfold State.storeAfterPin
  repeat' split
  · exact h
  · exact Memory.wf_scramblePlaces _ _ _ _ h
  · exact h
  · exact h

/-- STATUS clears the run-change flag, or its frame waits (R194). -/
theorem exec_status_cases (p : List Byte) (hx : Machine.exec (.status p) s = .next t) :
    ∃ l : Link, t = { s with link := l } := by
  have work (l : Link) : ∃ l', performStatus p { s with link := l } = { s with link := l' } := by
    unfold performStatus State.noArgument
    split <;> exact ⟨_, rfl⟩
  have waits : ∃ l, s.frameArrives (.status p) = { s with link := l } := ⟨_, rfl⟩
  cases hx
  unfold State.takeFrame
  repeat' split
  · exact work s.link
  · exact work _
  · exact waits
  · exact waits

/-! ## The step -/

/-- The command that a step does: the front of the queue, or the oldest complete frame, if it does one. -/
theorem step_cases (hx : step s = .next t) :
    ∃ u, (u = { s with pending := u.pending } ∨ u = s.drift ∧ s.pending = []) ∧
      (t = u ∨ ∃ c, Machine.exec c u = .next t ∧ (s.pending.head? = some c ∨ c ≠ .powerOn ∧ c ≠ .resetPin)) := by
  unfold step at hx
  split at hx
  · rename_i idle
    refine ⟨s.drift, .inr ⟨rfl, idle⟩, ?_⟩
    unfold State.tick State.serveLink at hx
    split at hx
    · split at hx
      · cases hx; exact .inl rfl
      · rename_i f _ _
        refine .inr ⟨_, hx, .inr ?_⟩
        have named (code : Byte) (p : List Byte) :
            (requestOf code p).getD (.unknownCommand code p) ≠ .powerOn ∧
              (requestOf code p).getD (.unknownCommand code p) ≠ .resetPin := by
          unfold requestOf
          split <;> simp
        unfold RxFrame.command
        repeat' split
        · simp
        · simp
        · exact named _ _
        · simp
    · cases hx; exact .inl rfl
  · rename_i c rest queued
    exact ⟨_, .inl rfl, .inr ⟨c, hx, .inl (by simp [queued])⟩⟩

theorem Does.drift (h : Does sure s0 s) : Does sure s0 s.drift := by
  refine h.aside ?_
  simp [State.drift, State.watched, State.tableView, State.shaftView, State.runView, Link.sendByte_runChange]

/-- A property that every deed keeps, and that STATUS, the cold resets and the halt line keep, is kept by every step. -/
theorem step_keeps {P : State → Prop} (deeds : ∀ s t, Deed sure s t → P s → P t)
    (link : ∀ (s : State) (l : Link), P s → P { s with link := l })
    (line : ∀ s : State, P s → P { s with haltLine := true })
    (cold : ∀ (s : State) (cause : ResetCause) (store : List Host.Cell) (free : Nat),
      (s.storeCanonical → Memory.wf store = true) → P s → P (s.cold cause store free))
    (clamp : sure → P s → ∀ w, s.walk = some w → w.want ≠ none → s.clampOpen w) (hs : P s) (hx : step s = .next t) :
    P t := by
  obtain ⟨u, hu, done⟩ := step_cases hx
  have before : Does sure s u := by
    rcases hu with hu | ⟨hu, -⟩
    · rw [hu]; exact (Does.refl sure s).aside rfl
    · rw [hu]; exact (Does.refl sure s).drift
  have same : u.walk = s.walk ∧ u.run = s.run := by rcases hu with hu | ⟨hu, -⟩ <;> rw [hu] <;> exact ⟨rfl, rfl⟩
  have hP := before.keeps deeds hs
  rcases done with rfl | ⟨c, hc, -⟩
  · exact hP
  · by_cases status : ∃ p, c = .status p
    · obtain ⟨p, rfl⟩ := status
      obtain ⟨l, rfl⟩ := exec_status_cases p hc
      exact link u l hP
    by_cases power : c = .powerOn
    · subst power; cases hc; exact cold _ _ _ _ (fun _ => rfl) hP
    by_cases pin : c = .resetPin
    · subst pin; cases hc; exact cold _ _ _ _ State.wf_storeAfterPin hP
    by_cases halt : c = .haltLineActive
    · subst halt
      rcases exec_haltLineActive_cases (sure := sure) hc with rfl | does
      · exact hP
      · exact does.keeps deeds (line u hP)
    refine Does.keeps deeds ((Does.refl sure u).exec c hc (fun p e => status ⟨p, e⟩) power pin halt ?_) hP
    intro hsure w hw want
    have := clamp hsure hs w (same.1 ▸ hw) want
    unfold State.clampOpen at this ⊢
    rwa [same.2]

end Sys2Proof.Machine
end

section
/-! PROOFS. The condition table: what opening, clearing and acknowledging an entry do (R178 to R182). -/

namespace Sys2Proof.Machine

/-! ## One entry of the table amended -/

/-- The table with the entry of key `k` changed by `f`, or removed. -/
def amend (k : Key) (f : Condition → Option Condition) : List Condition → List Condition
  | [] => []
  | c :: cs => if c.key = k then (f c).toList ++ cs else c :: amend k f cs

/-- The entry of a key. -/
def entryOf (k : Key) (cs : List Condition) : Option Condition := cs.find? fun c => decide (c.key = k)

section Amend

variable {k k' : Key} {f : Condition → Option Condition} {c c' : Condition} {cs : List Condition}

theorem entryOf_cons : entryOf k (c :: cs) = if c.key = k then some c else entryOf k cs := by
  unfold entryOf
  rw [List.find?_cons]
  by_cases h : c.key = k <;> simp [h]

theorem entryOf_eq_none_iff : entryOf k cs = none ↔ k ∉ cs.map (·.key) := by
  simp [entryOf]

theorem mem_of_entryOf (h : entryOf k cs = some c) : c ∈ cs := List.mem_of_find?_eq_some h

theorem key_of_entryOf (h : entryOf k cs = some c) : c.key = k := by
  simpa using List.find?_some h

theorem amend_of_absent (h : entryOf k cs = none) : amend k f cs = cs := by
  induction cs with
  | nil => rfl
  | cons x xs ih =>
    rw [entryOf_cons] at h
    split at h
    · cases h
    · rename_i hx; rw [amend, if_neg hx, ih h]

/-- An entry changed to itself leaves the table as it was. -/
theorem amend_of_same (h : entryOf k cs = some c) (same : f c = some c) : amend k f cs = cs := by
  induction cs with
  | nil => cases h
  | cons x xs ih =>
    rw [entryOf_cons] at h
    split at h
    · rename_i hx; obtain rfl : x = c := by simpa using h
      simp [amend, hx, same]
    · rename_i hx; rw [amend, if_neg hx, ih h]

theorem entryOf_amend_ne (key : ∀ c c', f c = some c' → c'.key = c.key) (h : k' ≠ k) :
    entryOf k' (amend k f cs) = entryOf k' cs := by
  induction cs with
  | nil => rfl
  | cons x xs ih =>
    rw [amend, entryOf_cons]
    split
    · rename_i hx
      rw [if_neg (by rw [hx]; exact h.symm)]
      cases hf : f x with
      | none => rfl
      | some y =>
        rw [Option.toList_some, List.singleton_append, entryOf_cons, if_neg]
        rw [key x y hf, hx]; exact h.symm
    · rw [entryOf_cons, ih]

theorem entryOf_amend_self (key : ∀ c c', f c = some c' → c'.key = c.key) (unique : (cs.map (·.key)).Nodup)
    (h : entryOf k cs = some c) : entryOf k (amend k f cs) = f c := by
  induction cs with
  | nil => cases h
  | cons x xs ih =>
    obtain ⟨fresh, unique⟩ := List.nodup_cons.1 unique
    rw [entryOf_cons] at h
    rw [amend]
    split at h
    · rename_i hx
      obtain rfl : x = c := by simpa using h
      rw [if_pos hx]
      cases hf : f x with
      | none => exact entryOf_eq_none_iff.2 (hx ▸ fresh)
      | some y => rw [Option.toList_some, List.singleton_append, entryOf_cons, if_pos ((key x y hf).trans hx)]
    · rename_i hx; rw [if_neg hx, entryOf_cons, if_neg hx, ih unique h]

theorem keys_amend_of_some (key : ∀ c c', f c = some c' → c'.key = c.key) (h : entryOf k cs = some c)
    (changed : f c = some c') : (amend k f cs).map (·.key) = cs.map (·.key) := by
  induction cs with
  | nil => rfl
  | cons x xs ih =>
    rw [entryOf_cons] at h
    rw [amend]
    split at h
    · rename_i hx; obtain rfl : x = c := by simpa using h
      simp [hx, changed, key x c' changed]
    · rename_i hx; simp [hx, ih h]

theorem keys_amend_of_none (h : entryOf k cs = some c) (removed : f c = none) :
    (amend k f cs).map (·.key) = (cs.map (·.key)).erase k := by
  induction cs with
  | nil => rfl
  | cons x xs ih =>
    rw [entryOf_cons] at h
    rw [amend]
    split at h
    · rename_i hx; obtain rfl : x = c := by simpa using h
      simp [hx, removed]
    · rename_i hx; simp [hx, ih h]

theorem keys_amend_sublist (key : ∀ c c', f c = some c' → c'.key = c.key) :
    ((amend k f cs).map (·.key)).Sublist (cs.map (·.key)) := by
  cases h : entryOf k cs with
  | none => rw [amend_of_absent h]
  | some c =>
    cases changed : f c with
    | none => rw [keys_amend_of_none h changed]; exact List.erase_sublist
    | some c' => rw [keys_amend_of_some key h changed]

theorem mem_amend (h : c ∈ amend k f cs) : c ∈ cs ∨ ∃ x ∈ cs, f x = some c := by
  induction cs with
  | nil => cases h
  | cons x xs ih =>
    rw [amend] at h
    split at h
    · rcases List.mem_append.1 h with h | h
      · exact .inr ⟨x, by simp, by simpa using h⟩
      · exact .inl (by simp [h])
    · rcases List.mem_cons.1 h with rfl | h
      · exact .inl (by simp)
      · rcases ih h with h | ⟨y, hy, e⟩
        · exact .inl (by simp [h])
        · exact .inr ⟨y, by simp [hy], e⟩

end Amend

/-! ## The three events -/

/-- An entry whose cause clears (R181). -/
def Condition.clear (c : Condition) : Option Condition :=
  match c.state with
  | .opened => some { c with state := .cleared }
  | .held => none
  | .cleared => some c

/-- An entry that is acknowledged (R182). -/
def Condition.ack (c : Condition) : Option Condition :=
  match c.state with
  | .opened => some { c with state := .held }
  | .held => some c
  | .cleared => none

/-- A new entry (R179). -/
def freshEntry (k : Key) (n : Option Needle) (d : Detail) (o : Nat) (p : Option Position) : Condition :=
  { key := k, state := .opened, repeats := 0, needle := n, detail := d, ordinal := o, position := p }

/-- An entry whose cause recurs (R180). -/
def Condition.recur (n : Option Needle) (d : Detail) (o : Nat) (p : Option Position) (c : Condition) : Condition :=
  { c with state := .opened, repeats := min 255 (c.repeats + 1), needle := n, detail := d, ordinal := o, position := p }

theorem Condition.clear_key (c c' : Condition) (h : c.clear = some c') : c'.key = c.key := by
  unfold Condition.clear at h; split at h <;> cases h <;> rfl

theorem Condition.ack_key (c c' : Condition) (h : c.ack = some c') : c'.key = c.key := by
  unfold Condition.ack at h; split at h <;> cases h <;> rfl

theorem Condition.clear_repeats {c c' : Condition} (h : c.clear = some c') : c'.repeats = c.repeats := by
  unfold Condition.clear at h; split at h <;> cases h <;> rfl

theorem Condition.ack_repeats {c c' : Condition} (h : c.ack = some c') : c'.repeats = c.repeats := by
  unfold Condition.ack at h; split at h <;> cases h <;> rfl

theorem clearIn_eq_amend (k : Key) (cs : List Condition) : clearIn k cs = amend k Condition.clear cs := by
  induction cs with
  | nil => rfl
  | cons c cs ih =>
    rw [clearIn, amend, ih]
    by_cases hc : c.key = k
    · cases hs : c.state <;> simp [hc, hs, Condition.clear]
    · simp [hc]

theorem ackIn_eq_amend (k : Key) (cs : List Condition) : ackIn k cs = amend k Condition.ack cs := by
  induction cs with
  | nil => rfl
  | cons c cs ih =>
    rw [ackIn, amend, ih]
    by_cases hc : c.key = k
    · cases hs : c.state <;> simp [hc, hs, Condition.ack]
    · simp [hc]

theorem openIn_of_absent {k : Key} {cs : List Condition} (h : entryOf k cs = none) (n : Option Needle) (d : Detail)
    (o : Nat) (p : Option Position) : openIn k n d o p cs = cs ++ [freshEntry k n d o p] := by
  induction cs with
  | nil => rfl
  | cons c cs ih =>
    rw [entryOf_cons] at h
    split at h
    · cases h
    · rename_i hc; rw [openIn, if_neg hc, ih h]; rfl

theorem openIn_of_present {k : Key} {cs : List Condition} {c : Condition} (h : entryOf k cs = some c)
    (n : Option Needle) (d : Detail) (o : Nat) (p : Option Position) :
    openIn k n d o p cs = amend k (fun c => some (c.recur n d o p)) cs := by
  induction cs with
  | nil => cases h
  | cons x xs ih =>
    rw [entryOf_cons] at h
    rw [openIn, amend]
    split at h
    · rename_i hx; rw [if_pos hx, if_pos hx]; rfl
    · rename_i hx; rw [if_neg hx, if_neg hx, ih h]

/-! ## A sound table stays sound (R176, R178) -/

/-- One entry for a key, and repeat counts in range. -/
def tableSound (cs : List Condition) : Prop := (cs.map (·.key)).Nodup ∧ ∀ c ∈ cs, c.repeats ≤ 255

theorem tableSound_amend {k : Key} {f : Condition → Option Condition} {cs : List Condition}
    (key : ∀ c c', f c = some c' → c'.key = c.key)
    (repeats : ∀ c c', f c = some c' → c.repeats ≤ 255 → c'.repeats ≤ 255) (h : tableSound cs) :
    tableSound (amend k f cs) := by
  obtain ⟨unique, small⟩ := h
  refine ⟨(keys_amend_sublist key).nodup unique, fun c hc => ?_⟩
  rcases mem_amend hc with hc | ⟨x, hx, hf⟩
  · exact small c hc
  · exact repeats x c hf (small x hx)

theorem tableSound_clearIn {k : Key} {cs : List Condition} (h : tableSound cs) : tableSound (clearIn k cs) := by
  rw [clearIn_eq_amend]
  exact tableSound_amend Condition.clear_key (fun _ _ e small => (Condition.clear_repeats e).trans_le small) h

theorem tableSound_ackIn {k : Key} {cs : List Condition} (h : tableSound cs) : tableSound (ackIn k cs) := by
  rw [ackIn_eq_amend]
  exact tableSound_amend Condition.ack_key (fun _ _ e small => (Condition.ack_repeats e).trans_le small) h

theorem tableSound_openIn {k : Key} {cs : List Condition} (n : Option Needle) (d : Detail) (o : Nat)
    (p : Option Position) (h : tableSound cs) : tableSound (openIn k n d o p cs) := by
  cases found : entryOf k cs with
  | none =>
    obtain ⟨unique, small⟩ := h
    rw [openIn_of_absent found]
    refine ⟨?_, fun c hc => ?_⟩
    · rw [List.map_append, List.nodup_append_comm]
      exact List.nodup_cons.2 ⟨entryOf_eq_none_iff.1 found, unique⟩
    · rcases List.mem_append.1 hc with hc | hc
      · exact small c hc
      · rw [List.mem_singleton.1 hc]; exact Nat.zero_le _
  | some c =>
    rw [openIn_of_present found]
    refine tableSound_amend ?_ ?_ h <;> rintro c c' ⟨⟩
    · rfl
    · exact fun _ => Nat.min_le_left ..

theorem State.conditionsSound_iff {s : State} : s.conditionsSound ↔ tableSound s.conditions ∧ s.changes < 65536 :=
  ⟨fun ⟨unique, count, small⟩ => ⟨⟨unique, small⟩, count⟩, fun ⟨⟨unique, small⟩, count⟩ => ⟨unique, count, small⟩⟩

theorem countChange_lt (n : Nat) : countChange n < 65536 := Nat.mod_lt _ (by decide)

theorem State.conditionsSound_openCause {s : State} (h : s.conditionsSound) (k : Key) (n : Option Needle) (d : Detail)
    (p : Option Position) : (s.openCause k n d p).conditionsSound := by
  obtain ⟨table, -⟩ := State.conditionsSound_iff.1 h
  exact State.conditionsSound_iff.2 ⟨tableSound_openIn _ _ _ _ table, countChange_lt _⟩

theorem State.conditionsSound_clearCause {s : State} (h : s.conditionsSound) (k : Key) :
    (s.clearCause k).conditionsSound := by
  obtain ⟨table, -⟩ := State.conditionsSound_iff.1 h
  unfold State.clearCause
  split
  · exact State.conditionsSound_iff.2 ⟨tableSound_clearIn table, countChange_lt _⟩
  · exact h

theorem State.conditionsSound_acknowledge {s : State} (h : s.conditionsSound) (k : Key) :
    (s.acknowledge k).conditionsSound := by
  obtain ⟨table, -⟩ := State.conditionsSound_iff.1 h
  unfold State.acknowledge
  repeat' split
  · exact h
  · exact State.conditionsSound_iff.2 ⟨tableSound_ackIn table, countChange_lt _⟩
  · exact h

/-! ## What a cleared or acknowledged key leaves in the table -/

theorem any_eq_entryOf {k : Key} {p : Condition → Bool} {cs : List Condition} (unique : (cs.map (·.key)).Nodup) :
    (cs.any fun c => decide (c.key = k) && p c) = (entryOf k cs).any p := by
  induction cs with
  | nil => rfl
  | cons c cs ih =>
    obtain ⟨fresh, unique⟩ := List.nodup_cons.1 unique
    rw [List.any_cons, ih unique, entryOf_cons]
    split
    · rename_i hc
      rw [entryOf_eq_none_iff.2 (hc ▸ fresh)]
      simp [hc]
    · rename_i hc; simp [hc]

/-- A cause is open when its key's one entry says so. -/
theorem State.causeOpen_eq {s : State} (h : s.conditionsSound) (k : Key) :
    s.causeOpen k = (s.condition? k).any Condition.causeOpen := any_eq_entryOf h.1

section ClearCause

variable {s : State} {k : Key} {c : Condition} (sound : s.conditionsSound)
include sound

theorem State.clearCause_of_absent (h : s.condition? k = none) : s.clearCause k = s := by
  rw [State.clearCause, State.causeOpen_eq sound, h]; rfl

theorem State.clearCause_of_cleared (h : s.condition? k = some c) (cleared : c.state = .cleared) :
    s.clearCause k = s := by
  rw [State.clearCause, State.causeOpen_eq sound, h]; simp [Condition.causeOpen, cleared]

theorem State.clearCause_of_open (h : s.condition? k = some c) (isOpen : c.state ≠ .cleared) :
    s.clearCause k = { s with conditions := amend k Condition.clear s.conditions, changes := countChange s.changes } := by
  rw [State.clearCause, State.causeOpen_eq sound, h, ← clearIn_eq_amend]; simp [Condition.causeOpen, isOpen]

end ClearCause

theorem State.acknowledge_of_absent {s : State} {k : Key} (h : s.condition? k = none) : s.acknowledge k = s := by
  simp [State.acknowledge, h]

/-- Clearing another key's cause leaves an entry as it was. -/
theorem State.condition?_clearCause_ne {s : State} {k k' : Key} (h : k' ≠ k) :
    (s.clearCause k).condition? k' = s.condition? k' := by
  unfold State.clearCause
  split
  · change entryOf k' (clearIn k _) = _
    rw [clearIn_eq_amend, entryOf_amend_ne Condition.clear_key h]; rfl
  · rfl

theorem State.condition?_acknowledge_ne {s : State} {k k' : Key} (h : k' ≠ k) :
    (s.acknowledge k).condition? k' = s.condition? k' := by
  unfold State.acknowledge
  repeat' split
  · rfl
  · change entryOf k' (ackIn k _) = _
    rw [ackIn_eq_amend, entryOf_amend_ne Condition.ack_key h]; rfl
  · rfl

end Sys2Proof.Machine

namespace Sys2Proof.Proofs

open Sys2Proof.Machine

/-- Settles O50: each event amends the one entry of its key, or adds it at the tail. -/
theorem conditionTransitions : Obligations.ConditionTransitions := by
  intro s k sound keys others counted frame
  have unique := sound.1
  refine ⟨fun n d p => ?opened, ?cleared, ?acked⟩
  case opened =>
    refine ⟨rfl, fun k' hk => ?_, rfl, fun absent => ?_, fun c found => ?_⟩
    · cases found : entryOf k s.conditions with
      | none =>
        change entryOf k' (openIn ..) = entryOf k' _
        rw [openIn_of_absent found]
        simp [entryOf, List.find?_append, freshEntry, hk.symm]
      | some c =>
        change entryOf k' (openIn ..) = entryOf k' _
        rw [openIn_of_present found, entryOf_amend_ne (by rintro c c' ⟨⟩; rfl) hk]
    · have absent : entryOf k s.conditions = none := absent
      have table := openIn_of_absent absent n d s.run.ordinal p
      constructor
      · change (openIn ..).map _ = _
        rw [table, List.map_append]; rfl
      · change entryOf k (openIn ..) = _
        rw [table]
        unfold entryOf at absent ⊢
        rw [List.find?_append, absent]
        simp [freshEntry]
    · have found : entryOf k s.conditions = some c := found
      have table := openIn_of_present found n d s.run.ordinal p
      constructor
      · change (openIn ..).map _ = _
        rw [table]
        exact keys_amend_of_some (by rintro c c' ⟨⟩; rfl) found rfl
      · change entryOf k (openIn ..) = _
        rw [table, entryOf_amend_self (by rintro c c' ⟨⟩; rfl) unique found, ← key_of_entryOf found]
        rfl
  case cleared =>
    refine ⟨?_, fun k' hk => State.condition?_clearCause_ne hk, State.clearCause_of_absent sound, fun c found => ⟨?_, ?_, ?_⟩⟩
    · exact State.clearCause_eq k s
    all_goals intro state
    · rw [State.clearCause_of_open sound found (by simp [state])]
      have changed : c.clear = some { c with state := .cleared } := by simp [Condition.clear, state]
      exact ⟨rfl, keys_amend_of_some Condition.clear_key found changed,
        (entryOf_amend_self Condition.clear_key unique found).trans changed⟩
    · rw [State.clearCause_of_open sound found (by simp [state])]
      have removed : c.clear = none := by simp [Condition.clear, state]
      exact ⟨rfl, keys_amend_of_none found removed,
        (entryOf_amend_self Condition.clear_key unique found).trans removed⟩
    · exact State.clearCause_of_cleared sound found state
  case acked =>
    refine ⟨?_, fun k' hk => State.condition?_acknowledge_ne hk, State.acknowledge_of_absent, fun c found => ⟨?_, ?_, ?_⟩⟩
    · unfold State.acknowledge; repeat' split
      all_goals rfl
    all_goals intro state
    · rw [State.acknowledge_of_unheld found (by simp [state]), ackIn_eq_amend]
      have changed : c.ack = some { c with state := .held } := by simp [Condition.ack, state]
      exact ⟨rfl, keys_amend_of_some Condition.ack_key found changed,
        (entryOf_amend_self Condition.ack_key unique found).trans changed⟩
    · exact State.acknowledge_of_held found state
    · rw [State.acknowledge_of_unheld found (by simp [state]), ackIn_eq_amend]
      have removed : c.ack = none := by simp [Condition.ack, state]
      exact ⟨rfl, keys_amend_of_none found removed,
        (entryOf_amend_self Condition.ack_key unique found).trans removed⟩

end Sys2Proof.Proofs
end

section
/-! PROOFS. The properties that every step keeps: the store's form, the condition table, the speed command, a held run,
the ordinals. Each is kept by every deed, by the link and by a cold reset. -/

namespace Sys2Proof.Machine

variable {sure : Prop} {s t : State}

/-! ## What a link reset leaves of the fields that the invariants see -/

theorem State.linkReset_tableView : s.linkReset.tableView = (s.store, [], 0, s.haltLine) := by
  simp [State.linkReset, State.tableView]

theorem State.linkReset_shaftView :
    s.linkReset.shaftView = (s.config, 0, if s.shaft.atRest then .still else .coasting, s.config.speedMin) := by
  simp [State.linkReset, State.shaftView, Shaft.linkReset, Shaft.release]

theorem State.linkReset_runView : s.linkReset.runView =
    (.idle, none, [], none, 0, 0, 0, [], .idle, none, s.link.runChange || s.runExists) := by
  simp [State.linkReset, State.runView, Run.linkReset, Link.linkReset, State.reset]

theorem Deed.ordinary (d : Deed sure s t) : (∃ base first ws, t.store = writeRegion s.store base first ws) ∨
    t.store = s.store := by
  have same (h : t.tableView = s.tableView) : t.store = s.store := congrArg Prod.fst h
  cases d with
  | aside h => exact .inr (same (congrArg Prod.fst h))
  | opens k n d p eq => exact .inr (eq ▸ rfl)
  | clears k eq => exact .inr (eq ▸ State.clearCause_store _ k)
  | acks k eq => exact .inr (eq ▸ State.acknowledge_store _ k)
  | stores base first ws eq => exact .inl ⟨base, first, ws, eq ▸ rfl⟩
  | shaft _ _ table _ => exact .inr (same table)
  | run _ table _ => exact .inr (same table)
  | configures _ _ _ _ table _ => exact .inr (same table)
  | frees eq => exact .inr (eq ▸ rfl)
  | resets eq => exact .inr (eq ▸ congrArg Prod.fst State.linkReset_tableView)

theorem State.conditionsSound_of_empty (h : s.conditions = []) (count : s.changes = 0) : s.conditionsSound := by
  unfold State.conditionsSound
  rw [h, count]
  exact ⟨List.nodup_nil, by simp, by simp⟩

/-- A deed that is not a cause event or the link reset leaves the condition table alone. -/
theorem Deed.conditions (d : Deed sure s t) : s.conditionsSound → t.conditionsSound := by
  have same (h : t.tableView = s.tableView) : s.conditionsSound → t.conditionsSound := by
    simp only [State.tableView, Prod.mk.injEq] at h
    obtain ⟨-, table, count, -⟩ := h
    unfold State.conditionsSound
    rw [table, count]
    exact id
  cases d with
  | aside h => exact same (congrArg Prod.fst h)
  | opens k n d p eq => exact fun h => eq ▸ State.conditionsSound_openCause h k n d p
  | clears k eq => exact fun h => eq ▸ State.conditionsSound_clearCause h k
  | acks k eq => exact fun h => eq ▸ State.conditionsSound_acknowledge h k
  | stores base first ws eq => exact fun h => eq ▸ h
  | shaft _ _ table _ => exact same table
  | run _ table _ => exact same table
  | configures _ _ _ _ table _ => exact same table
  | frees eq => exact fun h => eq ▸ h
  | resets eq =>
    subst eq
    have view := State.linkReset_tableView (s := s)
    simp only [State.tableView, Prod.mk.injEq] at view
    obtain ⟨-, empty, zero, -⟩ := view
    exact fun _ => State.conditionsSound_of_empty empty zero

/-! ## The speed command (R92, R98, R101) -/

/-- The speed fields of a configuration in range (Table 11-4). -/
theorem Configuration.speeds_of_inRange {c : Configuration} (h : c.inRange = true) :
    60 ≤ c.speedMin ∧ c.speedMin < c.speedMax := by
  simp [Configuration.inRange, fieldChecks, Configuration.values] at h
  omega

theorem State.speedMin_le_floorSpeed : s.config.speedMin ≤ s.floorSpeed := Nat.le_max_left ..

theorem State.effectiveCap_le : s.effectiveCap ≤ s.config.speedMax := by
  unfold State.effectiveCap
  dsimp only
  split <;> omega

theorem State.speedMin_le_effectiveCap (range : s.config.speedMin ≤ s.config.speedMax) :
    s.config.speedMin ≤ s.effectiveCap := by
  have := s.speedMin_le_floorSpeed
  unfold State.effectiveCap
  dsimp only
  split <;> omega

theorem State.planBound_le (cap : Nat) (e : Entry) (rest : List Entry) : s.planBound cap e rest ≤ cap :=
  (Nat.min_le_left ..).trans (Nat.min_le_left ..)

/-- The planned speed of a revolution lies in speed_min..speed_max. -/
theorem State.planSpeed_range (range : s.config.speedMin ≤ s.config.speedMax)
    (previous : s.shaft.vPrev ≤ s.config.speedMax) (e : Entry) (rest : List Entry) :
    s.config.speedMin ≤ s.planSpeed e rest ∧ s.planSpeed e rest ≤ s.config.speedMax := by
  have low := s.speedMin_le_floorSpeed
  have cap := s.effectiveCap_le
  have bound := State.planBound_le (s := s) s.effectiveCap e rest
  have floor : s.floorSpeed ≤ s.config.speedMax := by unfold State.floorSpeed; omega
  unfold State.planSpeed
  omega

/-- Soundness of the speeds is a property of the shaft's view. -/
theorem State.speedSound_congr (h : t.shaftView = s.shaftView) (hs : s.speedSound) : t.speedSound := by
  simp only [State.shaftView, Prod.mk.injEq] at h
  obtain ⟨config, command, state, vPrev⟩ := h
  unfold State.speedSound at hs ⊢
  rwa [config, command, state, vPrev]

theorem ShaftDeed.speedSound (d : ShaftDeed s t) (config : t.config = s.config) (hs : s.speedSound) :
    t.speedSound := by
  obtain ⟨range, command, undriven, turning⟩ := hs
  obtain ⟨-, order⟩ := Configuration.speeds_of_inRange range
  unfold State.speedSound
  rw [config]
  refine ⟨range, ?_⟩
  cases d with
  | unwound zero state => exact ⟨.inl zero, fun _ => zero, fun e => absurd e state⟩
  | crawls slow state state' =>
    exact ⟨.inr ⟨slow.ge, slow.trans_le order.le⟩, fun e => by simp [state] at e, fun e => absurd e state'⟩
  | rests same state vPrev =>
    rw [same, state, vPrev]
    exact ⟨command, undriven, fun _ => ⟨le_rfl, order.le⟩⟩
  | stands same state state' =>
    rw [same, state']
    exact ⟨command, fun _ => undriven state, nofun⟩
  | parks before state same =>
    obtain ⟨low, high⟩ := turning before
    rw [same, state]
    exact ⟨.inr (by omega), nofun, nofun⟩
  | begins e rest ready same vPrev state =>
    have previous : s.shaft.vPrev ≤ s.config.speedMax := by
      rcases ready with h | h
      · exact (turning h).2
      · omega
    have planned := State.planSpeed_range order.le previous e rest
    rw [same, vPrev, state]
    exact ⟨.inr planned, nofun, fun _ => planned⟩

theorem Deed.speedSound (d : Deed sure s t) (hs : s.speedSound) : t.speedSound := by
  cases d with
  | aside h => exact State.speedSound_congr (congrArg (·.2.1) h) hs
  | opens k n d p eq => exact eq ▸ hs
  | clears k eq => exact State.speedSound_congr (by simp [eq, State.shaftView]) hs
  | acks k eq => exact State.speedSound_congr (by simp [eq, State.shaftView]) hs
  | stores base first ws eq => exact eq ▸ hs
  | shaft deed config _ _ => exact deed.speedSound config hs
  | run _ _ shaft => exact State.speedSound_congr shaft hs
  | configures range still command state _ _ =>
    obtain ⟨-, -, undriven, -⟩ := hs
    have zero : s.shaft.command = 0 := undriven (by simp [still, ShaftState.undriven])
    unfold State.speedSound
    rw [command, state, still, zero]
    exact ⟨range, .inl rfl, fun _ => rfl, nofun⟩
  | frees eq => exact eq ▸ hs
  | resets eq =>
    subst eq
    have view := State.linkReset_shaftView (s := s)
    simp only [State.shaftView, Prod.mk.injEq] at view
    obtain ⟨config, command, state, -⟩ := view
    unfold State.speedSound
    rw [config, command, state]
    refine ⟨hs.1, .inl rfl, fun _ => rfl, fun e => ?_⟩
    split at e <;> cases e

theorem State.speedSound_cold (s : State) (cause : ResetCause) (store : List Host.Cell) (free : Nat) :
    (s.cold cause store free).speedSound := by
  have defaults : Configuration.defaults.inRange = true := by decide
  refine ⟨defaults, .inl rfl, fun _ => rfl, fun e => ?_⟩
  change (if s.shaft.atRest then ShaftState.still else .coasting) = _ at e
  split at e <;> cases e

/-! ## A held run (R51, R58, R64, R66) -/

/-- That a held run is empty is a property of the run's view. -/
theorem State.heldSound_congr (h : t.runView = s.runView) (hs : s.heldSound) : t.heldSound := by
  simp only [State.runView, Prod.mk.injEq] at h
  obtain ⟨state, chain, visited, resume, -, -, -, queue, feed, -, -⟩ := h
  unfold State.heldSound at hs ⊢
  rwa [state, chain, visited, resume, queue, feed]

/-- A run that sews, or changes its colour, is not held. -/
theorem State.heldSound_of_active (h : t.run.state.active = true) : t.heldSound := by
  unfold State.heldSound
  cases hr : t.run.state <;> simp [RunState.active, hr] at h ⊢

theorem RunDeed.heldSound (d : RunDeed sure s t) (hs : s.heldSound) : t.heldSound := by
  have ⟨held, backing, idle⟩ := hs
  cases d with
  | holds state queue feed _ _ _ path =>
    refine ⟨fun _ => ⟨queue, feed⟩, fun e => ?_, path⟩
    rw [e] at state
    exact absurd state (by simp)
  | fills feed state _ _ _ _ =>
    refine State.heldSound_of_active ?_
    rw [state]
    have notHeld : ¬(s.run.state = .idle ∨ s.run.state = .stopped ∨ s.run.state = .halted) := fun h => by
      have := (held h).2
      simp [feed] at this
    have notBacking : s.run.state ≠ .backing := fun h => by
      have := (backing h).2
      simp [feed] at this
    cases hr : s.run.state <;> simp_all [RunState.active]
  | sews _ after _ _ _ => exact State.heldSound_of_active after
  | starts _ after _ _ _ => exact State.heldSound_of_active (by rw [after]; rfl)
  | turnsBack before after queue feed _ _ _ =>
    refine ⟨fun h => ?_, fun _ => ⟨?_, feed⟩, fun h => ?_⟩
    · simp [after] at h
    · rw [queue]; exact (held (by simp [before])).1
    · simp [after] at h
  | walks path state queue feed _ w w' _ _ _ _ =>
    have notIdle : s.run.state ≠ .idle := fun h => by
      obtain ⟨-, -, resume⟩ := idle h
      exact path.elim (· (held (.inl h)).2) (· resume)
    unfold State.heldSound
    rw [state, queue, feed]
    exact ⟨held, backing, fun h => absurd h notIdle⟩

theorem Deed.heldSound (d : Deed sure s t) (hs : s.heldSound) : t.heldSound := by
  cases d with
  | aside h => exact State.heldSound_congr (congrArg (·.2.2) h) hs
  | opens k n d p eq => exact eq ▸ hs
  | clears k eq => exact State.heldSound_congr (by simp [eq, State.runView]) hs
  | acks k eq => exact State.heldSound_congr (by simp [eq, State.runView]) hs
  | stores base first ws eq => exact eq ▸ hs
  | shaft _ _ _ run => exact State.heldSound_congr run hs
  | run deed _ _ => exact deed.heldSound hs
  | configures _ _ _ _ _ run => exact State.heldSound_congr run hs
  | frees eq => exact eq ▸ hs
  | resets eq =>
    subst eq
    have view := State.linkReset_runView (s := s)
    simp only [State.runView, Prod.mk.injEq] at view
    obtain ⟨state, chain, visited, resume, -, -, -, queue, feed, -, -⟩ := view
    unfold State.heldSound
    rw [state, chain, visited, resume, queue, feed]
    simp

/-! ## The ordinals (R55, R70, R71) -/

/-- The order of the ordinals. -/
def Run.inOrder (r : Run) : Prop :=
  r.blockStart ≤ r.ordinal ∧ r.ordinal ≤ r.frontier ∧ r.frontier ≤ Config.ordinalMax

theorem Run.inOrder_of_same {r r' : Run} (h : r.sameOrdinals r') (hr : r.inOrder) : r'.inOrder := by
  obtain ⟨block, ordinal, frontier⟩ := h
  unfold Run.inOrder at hr ⊢
  rwa [block, ordinal, frontier]

theorem Run.inOrder_of_advances {r r' : Run} (h : r.advances r') (hr : r.inOrder) : r'.inOrder := by
  obtain ⟨low, high, top⟩ := hr
  unfold Run.inOrder
  have small := Nat.min_le_right (r.ordinal + 1) Config.ordinalMax
  have most : satOrdinal (r.ordinal + 1) = min (r.ordinal + 1) Config.ordinalMax := rfl
  rcases h with ⟨h1, h2, h3⟩ | ⟨h1, h2, h3⟩ | ⟨h1, h2, h3⟩ <;> rw [h1, h2, h3]
  · exact ⟨low, high, top⟩
  · omega
  · exact ⟨le_rfl, high, top⟩

/-- The order of the ordinals, and a walk in BACKING alone and within its clamp, depend on the run's view. -/
theorem State.ordinalsSound_congr (h : t.runView = s.runView) (hs : s.ordinalsSound) : t.ordinalsSound := by
  simp only [State.runView, Prod.mk.injEq] at h
  obtain ⟨state, -, -, -, ordinal, frontier, block, -, -, walk, -⟩ := h
  unfold State.ordinalsSound State.walkWithin at hs ⊢
  rwa [state, ordinal, frontier, block, walk]

theorem State.ordinalsSound_of_no_walk (order : t.run.inOrder) (walk : t.walk = none) : t.ordinalsSound := by
  obtain ⟨low, high, top⟩ := order
  refine ⟨low, high, top, fun w hw => ?_⟩
  rw [walk] at hw
  cases hw

/-- A walk within its clamp has not reached it. -/
theorem State.clampOpen_of_ordinalsSound (hs : s.ordinalsSound) {w : Walk} (walk : s.walk = some w)
    (waits : w.want ≠ none) : s.clampOpen w := by
  obtain ⟨-, -, -, walks⟩ := hs
  have within := (walks w walk).2 waits
  unfold State.walkWithin at within
  unfold State.clampOpen
  cases hd : w.dir <;> simp only [hd] at within ⊢ <;> omega

theorem RunDeed.ordinalsSound (d : RunDeed True s t) (hs : s.ordinalsSound) : t.ordinalsSound := by
  have ⟨low, high, top, clamped⟩ := hs
  have order : s.run.inOrder := ⟨low, high, top⟩
  have noWalk (h : s.run.state ≠ .backing) : s.walk = none := by
    cases hw : s.walk with
    | none => rfl
    | some w => exact absurd (clamped w hw).1 h
  cases d with
  | holds _ _ _ _ ordinals walk _ =>
    refine State.ordinalsSound_of_no_walk (Run.inOrder_of_same ordinals order) ?_
    rcases walk with h | ⟨h, notBacking⟩
    · exact h
    · rw [h, noWalk notBacking]
  | fills _ state ordinals walk _ _ =>
    obtain ⟨h1, h2, h3⟩ := ordinals
    unfold State.ordinalsSound State.walkWithin at hs ⊢
    rwa [state, h1, h2, h3, walk]
  | sews before _ ordinals walk _ =>
    refine State.ordinalsSound_of_no_walk (Run.inOrder_of_advances ordinals order) ?_
    rw [walk, noWalk (RunState.ne_backing_of_active before)]
  | starts before _ ordinals walk _ =>
    refine State.ordinalsSound_of_no_walk ?_ (walk.trans (noWalk before))
    rcases ordinals with h | ⟨h1, h2, h3⟩
    · exact Run.inOrder_of_same h order
    · unfold Run.inOrder; rw [h1, h2, h3]; decide
  | turnsBack before after _ _ ordinals walk _ =>
    obtain ⟨low, high, top⟩ := Run.inOrder_of_same ordinals order
    exact ⟨low, high, top, fun w hw => ⟨after, fun waits => absurd (walk w hw) waits⟩⟩
  | walks _ state _ _ _ w w' walk walk' dir step =>
    have backing : t.run.state = .backing := state.trans (clamped w walk).1
    have only {x : Walk} (h : t.walk = some x) : x = w' := Option.some.inj (h.symm.trans walk')
    rcases step with ⟨ordinals, within⟩ | ⟨within, reads, block, frontier, ordinal⟩
    · obtain ⟨low', high', top'⟩ := Run.inOrder_of_same ordinals order
      refine ⟨low', high', top', fun x hx => ⟨backing, fun waits => ?_⟩⟩
      obtain rfl := only hx
      have within := within waits trivial
      obtain ⟨h1, h2, h3⟩ := ordinals
      unfold State.clampOpen at within
      unfold State.walkWithin
      rw [dir, h1, h2, h3]
      cases hd : w.dir <;> simp only [hd] at within ⊢ <;> omega
    · have within := within trivial
      have moved : t.run.inOrder := by
        unfold State.clampOpen at within
        unfold Run.inOrder
        have most : satOrdinal (s.run.ordinal + 1) = min (s.run.ordinal + 1) Config.ordinalMax := rfl
        rw [block, frontier, ordinal]
        cases hd : w.dir <;> simp only [hd] at within ⊢ <;> omega
      obtain ⟨low', high', top'⟩ := moved
      refine ⟨low', high', top', fun x hx => ⟨backing, fun waits => absurd ?_ waits⟩⟩
      rw [only hx, reads]

theorem Deed.ordinalsSound (d : Deed True s t) (hs : s.ordinalsSound) : t.ordinalsSound := by
  cases d with
  | aside h => exact State.ordinalsSound_congr (congrArg (·.2.2) h) hs
  | opens k n d p eq => exact eq ▸ hs
  | clears k eq => exact State.ordinalsSound_congr (by simp [eq, State.runView]) hs
  | acks k eq => exact State.ordinalsSound_congr (by simp [eq, State.runView]) hs
  | stores base first ws eq => exact eq ▸ hs
  | shaft _ _ _ run => exact State.ordinalsSound_congr run hs
  | run deed _ _ => exact deed.ordinalsSound hs
  | configures _ _ _ _ _ run => exact State.ordinalsSound_congr run hs
  | frees eq => exact eq ▸ hs
  | resets eq =>
    subst eq
    have view := State.linkReset_runView (s := s)
    simp only [State.runView, Prod.mk.injEq] at view
    obtain ⟨-, -, -, -, ordinal, frontier, block, -, -, walk, -⟩ := view
    refine State.ordinalsSound_of_no_walk ?_ walk
    unfold Run.inOrder
    rw [ordinal, frontier, block]
    decide

end Sys2Proof.Machine

namespace Sys2Proof.Proofs

open Sys2Proof.Machine

/-- Settles O54: a burst's records keep the form, and no other deed touches the store. -/
theorem stepKeepsStoreCanonical : Obligations.StepKeepsStoreCanonical := by
  intro s t hs hx
  refine step_keeps (sure := False) ?_ (fun _ _ h => h) (fun _ h => h) (fun _ _ _ _ h hs => h hs) (fun h => h.elim) hs hx
  intro u v deed hu
  unfold State.storeCanonical at hu ⊢
  rcases deed.ordinary with ⟨base, first, ws, eq⟩ | eq <;> rw [eq]
  · exact Memory.wf_writeRegion base first ws hu
  · exact hu

/-- Settles O55: opening, clearing and acknowledging keep one entry for a key. -/
theorem stepKeepsConditionsSound : Obligations.StepKeepsConditionsSound := by
  intro s t hs hx
  exact step_keeps (sure := False) (fun _ _ deed => deed.conditions) (fun _ _ h => h) (fun _ h => h)
    (fun _ _ _ _ _ _ => State.conditionsSound_of_empty rfl rfl) (fun h => h.elim) hs hx

/-- Settles O56: the speeds that a deed commands lie in the range of the configuration in force. -/
theorem stepKeepsSpeedSound : Obligations.StepKeepsSpeedSound := by
  intro s t hs hx
  exact step_keeps (sure := False) (fun _ _ deed => deed.speedSound) (fun _ _ h => h) (fun _ h => h)
    (fun _ _ _ _ _ _ => State.speedSound_cold ..) (fun h => h.elim) hs hx

/-- Settles O57: a deed that leaves a run held empties the queue and idles the feed. -/
theorem stepKeepsHeldSound : Obligations.StepKeepsHeldSound := by
  intro s t hs hx
  refine step_keeps (sure := False) (fun _ _ deed => deed.heldSound) (fun _ _ h => h) (fun _ h => h) ?_ (fun h => h.elim) hs hx
  exact fun _ _ _ _ _ _ => ⟨fun _ => ⟨rfl, rfl⟩, nofun, fun _ => ⟨rfl, rfl, rfl⟩⟩

/-- Settles O58: a record executed or undone by a walk keeps the order, as the walk has not reached its clamp. -/
theorem stepKeepsOrdinalsSound : Obligations.StepKeepsOrdinalsSound := by
  intro s t hs hx
  refine step_keeps (sure := True) (fun _ _ deed => deed.ordinalsSound) (fun _ _ h => h) (fun _ h => h) ?_
    (fun _ h w hw waits => State.clampOpen_of_ordinalsSound h hw waits) hs hx
  exact fun _ _ _ _ _ _ => State.ordinalsSound_of_no_walk ⟨le_rfl, le_rfl, Nat.zero_le _⟩ rfl

end Sys2Proof.Proofs
end

section
/-! PROOFS. Entering a hold or the end of a run sets the run-change flag (R155), and the state after a cold reset. -/

namespace Sys2Proof.Machine

variable {sure : Prop} {s t u : State}

/-- A run that is held, or that does not exist. -/
def RunState.ended (r : RunState) : Prop := r = .stopped ∨ r = .halted ∨ r = .idle

theorem RunState.not_ended_of_active {r : RunState} (h : r.active = true) : ¬r.ended := by
  cases r <;> simp [RunState.active, RunState.ended] at h ⊢

/-- From `s` on, the run-change flag is set unless no hold and no end of the run has been entered. -/
def State.announces (s t : State) : Prop := t.link.runChange = true ∨ (t.run.state.ended → t.run.state = s.run.state)

theorem State.announces_congr (h : t.runView = u.runView) (hu : s.announces u) : s.announces t := by
  simp only [State.runView, Prod.mk.injEq] at h
  obtain ⟨state, -, -, -, -, -, -, -, -, -, flag⟩ := h
  unfold State.announces at hu ⊢
  rwa [state, flag]

/-- A run state that stays, with its flag, has been announced before. -/
theorem State.announces_of_same (state : t.run.state = u.run.state) (flag : t.link.runChange = u.link.runChange)
    (hu : s.announces u) : s.announces t := by
  unfold State.announces at hu ⊢
  rwa [state, flag]

theorem State.announces_of_not_ended (h : ¬t.run.state.ended) : s.announces t := .inr fun e => absurd e h

theorem RunDeed.announces (d : RunDeed sure u t) (hu : s.announces u) : s.announces t := by
  cases d with
  | holds _ _ _ flag _ _ _ => exact .inl flag
  | fills _ state _ _ flag _ => exact State.announces_of_same state flag hu
  | sews _ after _ _ _ => exact State.announces_of_not_ended (RunState.not_ended_of_active after)
  | starts _ after _ _ _ => exact State.announces_of_not_ended (by simp [after, RunState.ended])
  | turnsBack _ after _ _ _ _ _ => exact State.announces_of_not_ended (by simp [after, RunState.ended])
  | walks _ state _ _ flag _ _ _ _ _ _ => exact State.announces_of_same state flag hu

theorem Deed.announces (d : Deed sure u t) (hu : s.announces u) : s.announces t := by
  cases d with
  | aside h => exact State.announces_congr (congrArg (·.2.2) h) hu
  | opens k n d p eq => exact eq ▸ hu
  | clears k eq => exact State.announces_congr (by simp [eq, State.runView]) hu
  | acks k eq => exact State.announces_congr (by simp [eq, State.runView]) hu
  | stores base first ws eq => exact eq ▸ hu
  | shaft _ _ _ run => exact State.announces_congr run hu
  | run deed _ _ => exact deed.announces hu
  | configures _ _ _ _ _ run => exact State.announces_congr run hu
  | frees eq => exact eq ▸ hu
  | resets eq =>
    subst eq
    have view := State.linkReset_runView (s := u)
    simp only [State.runView, Prod.mk.injEq] at view
    obtain ⟨state, -, -, -, -, -, -, -, -, -, flag⟩ := view
    unfold State.announces at hu ⊢
    rw [state, flag]
    rcases hu with set | known
    · exact .inl (by simp [set])
    · by_cases idle : u.run.state = .idle
      · exact .inr fun _ => idle ▸ known (.inr (.inr idle))
      · exact .inl (by simp [State.runExists, idle])

end Sys2Proof.Machine

namespace Sys2Proof.Proofs

open Sys2Proof.Machine

/-- Settles O60: a deed that holds or ends the run sets the flag, and STATUS, which clears it, keeps the run state. -/
theorem holdSetsRunChange : Obligations.HoldSetsRunChange := by
  intro s t hx power pin changed ended
  obtain ⟨u, hu, done⟩ := step_cases hx
  have same : u.run.state = s.run.state := by
    rcases hu with hu | ⟨hu, -⟩
    · rw [hu]
    · rw [hu]; rfl
  have told (h : s.announces t) : t.link.runChange = true := h.resolve_right fun known => changed (known ended)
  rcases done with rfl | ⟨c, hc, named⟩
  · exact absurd same changed
  · have notPower : c ≠ .powerOn := fun e => named.elim (fun h => power (e ▸ h)) fun h => h.1 e
    have notPin : c ≠ .resetPin := fun e => named.elim (fun h => pin (e ▸ h)) fun h => h.2 e
    by_cases status : ∃ p, c = .status p
    · obtain ⟨p, rfl⟩ := status
      obtain ⟨l, rfl⟩ := exec_status_cases p hc
      exact absurd same changed
    by_cases halt : c = .haltLineActive
    · subst halt
      rcases exec_haltLineActive_cases (sure := False) hc with rfl | does
      · exact absurd same changed
      · exact told (does.keeps (P := s.announces) (fun _ _ deed => deed.announces) (.inr fun _ => same))
    · have does : Does False u t :=
        (Does.refl False u).exec c hc (fun p e => status ⟨p, e⟩) notPower notPin halt fun h => h.elim
      exact told (does.keeps (P := s.announces) (fun _ _ deed => deed.announces) (.inr fun _ => same))

/-- Settles O53: nothing is stored, queued or commanded, no run exists, and the defaults lie in their ranges. -/
theorem resetSound : Obligations.ResetSound := by
  have defaults : Configuration.defaults.inRange = true := by decide
  refine ⟨rfl, State.conditionsSound_of_empty rfl rfl, ⟨defaults, .inl rfl, fun _ => rfl, nofun⟩,
    ⟨fun _ => ⟨rfl, rfl⟩, nofun, fun _ => ⟨rfl, rfl, rfl⟩⟩,
    State.ordinalsSound_of_no_walk ⟨le_rfl, le_rfl, Nat.zero_le _⟩ rfl, nofun⟩

end Sys2Proof.Proofs
end

section
/-! PROOFS. Nothing moves while the halt line is active (R108, R169): each command from a machine that does not move,
with the line active, and the emergency halt itself. -/

namespace Sys2Proof.Machine

variable {sure : Prop} {s t : State}

/-- The fields that say what moves. -/
def State.motion (s : State) : Bool × RunState × Nat × ShaftState × FrameState × CarriageState :=
  (s.haltLine, s.run.state, s.shaft.command, s.shaft.state, s.frame.state, s.carriage.state)

/-- The halt line is active, and nothing moves. -/
def State.motionless (s : State) : Prop :=
  s.haltLine = true ∧ (s.run.state = .idle ∨ s.run.state = .halted) ∧ s.shaft.command = 0 ∧
    (s.shaft.state = .still ∨ s.shaft.state = .coasting) ∧ s.frame.state.isMoving = false ∧
    s.frame.state.isHoming = false ∧ s.carriage.state = .idle

theorem State.motionless_iff : s.motionless ↔ s.haltLine = true ∧ s.haltHolds :=
  ⟨fun ⟨line, still⟩ => ⟨line, fun _ => still⟩, fun ⟨line, holds⟩ => ⟨line, holds line⟩⟩

namespace State.motionless

theorem same (h : s.motionless) (eq : t.motion = s.motion) : t.motionless := by
  simp only [State.motion, Prod.mk.injEq] at eq
  obtain ⟨line, run, command, shaft, frame, carriage⟩ := eq
  unfold State.motionless at h ⊢
  rwa [line, run, command, shaft, frame, carriage]

theorem line (h : s.motionless) : s.haltLine = true := h.1

theorem sewing (h : s.motionless) : s.sewing = false := by
  obtain ⟨-, run, -⟩ := h
  rcases run with e | e <;> simp [State.sewing, e]

theorem command (h : s.motionless) : s.shaft.command = 0 := by
  obtain ⟨-, -, command, -⟩ := h
  exact command

theorem shaft (h : s.motionless) : s.shaft.state = .still ∨ s.shaft.state = .coasting := by
  obtain ⟨-, -, -, shaft, -⟩ := h
  exact shaft

theorem frame (h : s.motionless) : s.frame.state = .unknown ∨ ∃ p, s.frame.state = .known p := by
  obtain ⟨-, -, -, -, moving, homing, -⟩ := h
  cases hf : s.frame.state <;> simp [hf, FrameState.isMoving, FrameState.isHoming] at moving homing ⊢

theorem carriage (h : s.motionless) : s.carriage.state = .idle := by
  obtain ⟨-, -, -, -, -, -, carriage⟩ := h
  exact carriage

/-! ## What follows a command -/

theorem foldl {α : Type} (f : State → α → State) (each : ∀ t a, t.motionless → (f t a).motionless) (l : List α)
    (h : s.motionless) : (l.foldl f s).motionless := by
  induction l generalizing s with
  | nil => exact h
  | cons a l ih => exact ih (each s a h)

theorem setHead (h : s.motionless) (i : Head) (r : HeadRecord) : (s.setHead i r).motionless := h.same rfl

theorem heads (h : s.motionless) (hs : Table 12 HeadRecord) : State.motionless { s with heads := hs } := h.same rfl

theorem clearCause (h : s.motionless) (k : Key) : (s.clearCause k).motionless := h.same (by simp [State.motion])

theorem testThreadBreaks (h : s.motionless) : s.testThreadBreaks.motionless := h.same (by simp [State.motion])

theorem latchesOffAtRest (h : s.motionless) : s.latchesOffAtRest.motionless := h.same (by simp [State.motion])

theorem arbitrate (h : s.motionless) : s.arbitrate.motionless := by
  rw [State.arbitrate_eq]
  exact h.same rfl

theorem bandCheck (h : s.motionless) : s.bandCheck.motionless := by
  have same : s.shaft.bandCheck s.config = s.shaft := by
    rcases h.shaft with e | e <;> simp [Shaft.bandCheck, e]
  unfold State.bandCheck
  rwa [same]

theorem whenStill (h : s.motionless) : s.whenStill.motionless := by
  have cut : s.completeCutJump.motionless := by
    unfold State.completeCutJump
    repeat' split
    · exact h
    · exact h.same rfl
    · exact h
  have unread : s.completeCutJump.headReadable = false := by simp [State.headReadable, cut.sewing]
  unfold State.whenStill
  dsimp only
  split
  · simpa [State.takeQuickStop, cut.sewing] using cut
  · simpa [State.dealHeads, unread] using cut

theorem settle (h : s.motionless) : s.settle.motionless := h.whenStill.arbitrate

/-! ## The requests -/

theorem reply (h : s.motionless) (code : Byte) (st : Status) (p : Payload) : (s.reply code st p).motionless :=
  h.same rfl

theorem refuse (h : s.motionless) (code : Byte) (st : Status) : (s.refuse code st).motionless := h.same rfl

theorem frameArrives (h : s.motionless) (c : Instr) : (s.frameArrives c).motionless := by
  unfold State.frameArrives
  split
  · exact h
  · exact h.same rfl

theorem takeFrame (h : s.motionless) (c : Instr) {act : State → State}
    (work : ∀ t : State, t.motionless → (act t).motionless) : (s.takeFrame c act).motionless := by
  unfold State.takeFrame
  repeat' split
  · exact work _ h
  · exact work _ (h.same rfl)
  · exact h.frameArrives c
  · exact h.frameArrives c

theorem checked (h : s.motionless) (code : Byte) {checks : List (Bool × Status)} {act : State → State}
    (work : (∀ x ∈ checks, x.1 = true) → (act s).motionless) : (s.checked code checks act).motionless := by
  unfold State.checked
  split
  · exact h.refuse ..
  · rename_i passed
    exact work (firstRefusal_eq_none.1 passed)

/-- A request that the active halt line refuses. -/
theorem halted (h : s.motionless) (code : Byte) {checks : List (Bool × Status)} {st : Status} {act : State → State}
    (refused : (!s.haltLine, st) ∈ checks) : (s.checked code checks act).motionless :=
  h.checked code fun passed => absurd (passed _ refused) (by simp [h.line])

theorem noArgument (h : s.motionless) (code : Byte) (p : List Byte) {act : State → State}
    (work : (act s).motionless) : (s.noArgument code p act).motionless := by
  unfold State.noArgument
  split
  · exact work
  · exact h.refuse ..

theorem oneDesign (h : s.motionless) (code : Byte) (p : List Byte) {act : Design → State → State}
    (work : ∀ d, (act d s).motionless) : (s.oneDesign code p act).motionless := by
  unfold State.oneDesign
  repeat' split
  · exact work _
  · exact h.refuse ..
  · exact h.refuse ..

theorem performNextCondition (h : s.motionless) (p : List Byte) : (performNextCondition p s).motionless := by
  refine h.noArgument _ _ ?_
  split
  · exact h.reply ..
  · exact (h.same (by simp [State.motion])).reply ..

theorem performListConditions (h : s.motionless) (p : List Byte) : (performListConditions p s).motionless := by
  unfold Machine.performListConditions
  repeat' split
  all_goals exact h.same rfl

theorem performAckCondition (h : s.motionless) (p : List Byte) : (performAckCondition p s).motionless := by
  unfold Machine.performAckCondition State.ackFor
  repeat' split
  · exact h.refuse ..
  · exact h.refuse ..
  · exact (h.same (by simp [State.motion])).reply ..
  · exact h.refuse ..

theorem performLoadOpen (h : s.motionless) (p : List Byte) : (performLoadOpen p s).motionless := by
  unfold Machine.performLoadOpen State.loadOpenFor
  split
  · split
    · exact h.refuse ..
    · refine h.checked _ fun _ => ?_
      split <;> exact h.same rfl
  · exact h.refuse ..

theorem performLoadData (h : s.motionless) (p : List Byte) : (performLoadData p s).motionless := by
  unfold Machine.performLoadData State.loadDataFor State.offerChunk
  repeat' split
  all_goals first
    | exact h.same rfl
    | exact arbitrate (h.same rfl)

theorem performLoadClose (h : s.motionless) (p : List Byte) : (performLoadClose p s).motionless := by
  unfold Machine.performLoadClose State.loadCloseFor State.closeLoad
  repeat' split
  all_goals exact h.same rfl

theorem performLoadCancel (h : s.motionless) (p : List Byte) : (performLoadCancel p s).motionless := by
  refine h.oneDesign _ _ fun d => ?_
  unfold State.loadCancelFor
  split <;> exact h.same rfl

theorem performReadRecords (h : s.motionless) (p : List Byte) : (performReadRecords p s).motionless := by
  unfold Machine.performReadRecords State.readRecordsFor
  repeat' split
  · exact h.refuse ..
  · exact h.checked _ fun _ => arbitrate (h.same rfl)
  · exact h.refuse ..

theorem performStart (h : s.motionless) (p : List Byte) : (performStart p s).motionless :=
  h.oneDesign _ _ fun _ => h.halted _ (st := .haltActive) (by simp [State.startChecks])

theorem performResume (h : s.motionless) (p : List Byte) : (performResume p s).motionless :=
  h.noArgument _ _ (h.halted _ (st := .haltActive) (by simp [State.resumeChecks]))

theorem performHome (h : s.motionless) (p : List Byte) : (performHome p s).motionless :=
  h.noArgument _ _ (h.halted _ (st := .haltActive) (by simp [State.homeChecks]))

theorem performShaftToTdc (h : s.motionless) (p : List Byte) : (performShaftToTdc p s).motionless :=
  h.noArgument _ _ (h.halted _ (st := .haltActive) (by simp [State.tdcChecks]))

theorem performFrameMove (h : s.motionless) (p : List Byte) : (performFrameMove p s).motionless := by
  unfold Machine.performFrameMove
  split
  · exact h.halted _ (st := .haltActive) (by simp [State.frameMoveChecks])
  · exact h.refuse ..

theorem walkRequest (h : s.motionless) (code : Byte) (dir : WalkDir) (p : List Byte) :
    (s.walkRequest code dir p).motionless := by
  unfold State.walkRequest
  split
  · exact h.halted _ (st := .haltActive) (by simp [State.walkChecks])
  · exact h.refuse ..

theorem performSelectNeedle (h : s.motionless) (p : List Byte) : (performSelectNeedle p s).motionless := by
  unfold Machine.performSelectNeedle State.selectFor
  repeat' split
  · exact h.refuse ..
  · exact h.halted _ (st := .haltActive) (by simp [State.selectChecks])
  · exact h.refuse ..

theorem stopRun (h : s.motionless) (r : StopReason) : (s.stopRun r).motionless := by
  have ⟨_, run, _⟩ := h
  rcases run with e | e <;> simpa [State.stopRun, e] using h

theorem quickStopRun (h : s.motionless) : s.quickStopRun.motionless := by
  have ⟨_, run, _⟩ := h
  rcases run with e | e <;> simpa [State.quickStopRun, e] using h

theorem performStop (h : s.motionless) (p : List Byte) : (performStop p s).motionless :=
  h.noArgument _ _ (h.checked _ fun _ => ((h.stopRun _).reply ..).settle)

theorem performQuickStop (h : s.motionless) (p : List Byte) : (performQuickStop p s).motionless :=
  h.noArgument _ _ (h.checked _ fun _ => (h.quickStopRun.reply ..).settle)

theorem endHeads (h : s.motionless) : s.endHeads.motionless :=
  testThreadBreaks (heads (foldl (fun s i => s.clearCause (.threadLoose i)) (fun _ _ ht => ht.clearCause _) allHeads h) _)

theorem endRun (h : s.motionless) (result : RunResult) (reason : StopReason) : (s.endRun result reason).motionless := by
  obtain ⟨line, -, rest⟩ := h
  refine bandCheck (latchesOffAtRest (endHeads (((clearCause ?_ _).clearCause _).clearCause _)))
  exact ⟨line, .inl rfl, rest⟩

theorem performAbort (h : s.motionless) (p : List Byte) : (performAbort p s).motionless :=
  h.noArgument _ _ (h.checked _ fun _ => (h.endRun ..).reply ..)

theorem performSetSpeed (h : s.motionless) (p : List Byte) : (performSetSpeed p s).motionless := by
  unfold Machine.performSetSpeed
  split <;> exact h.same rfl

theorem performAssign (h : s.motionless) (p : List Byte) : (performAssign p s).motionless := by
  unfold Machine.performAssign State.assignFor
  repeat' split
  · exact h.refuse ..
  · exact h.checked _ fun _ => h.same rfl
  · exact h.refuse ..

theorem performClearNeedle (h : s.motionless) (p : List Byte) : (performClearNeedle p s).motionless := by
  unfold Machine.performClearNeedle State.clearNeedleFor
  repeat' split
  · exact h.refuse ..
  · exact h.checked _ fun _ => h.same rfl
  · exact h.refuse ..

theorem setNeedleState (h : s.motionless) (n : Needle) (i : Head) (v : NeedleState) :
    (s.setNeedleState n i v).motionless := by
  unfold State.setNeedleState
  split
  · exact h
  · exact testThreadBreaks (h.same rfl)

theorem performSpool (h : s.motionless) (p : List Byte) : (performSpool p s).motionless := by
  unfold Machine.performSpool State.spoolFor
  repeat' split
  · exact h.checked _ fun _ => (h.setNeedleState ..).reply ..
  · exact h.refuse ..
  · exact h.refuse ..

theorem performMend (h : s.motionless) (p : List Byte) : (performMend p s).motionless := by
  unfold Machine.performMend State.mendFor
  repeat' split
  · exact h.refuse ..
  · exact h.refuse ..
  · exact h.checked _ fun _ => (h.setNeedleState ..).reply ..
  · exact h.refuse ..

theorem enableHead (h : s.motionless) (mask : Half) (i : Head) : (s.enableHead mask i).motionless := by
  unfold State.enableHead
  dsimp only
  repeat' split
  · exact h.same rfl
  · exact h
  · exact h
  · exact clearCause (setHead h _ _) _

theorem performHeadEnable (h : s.motionless) (p : List Byte) : (performHeadEnable p s).motionless := by
  unfold Machine.performHeadEnable
  split
  · rename_i m0 m1
    refine h.checked _ fun _ => reply (testThreadBreaks ?_) ..
    exact foldl _ (fun _ _ ht => ht.enableHead ..) _ (h.same (t := { s with enable := half m0 m1 }) rfl)
  · exact h.refuse ..

theorem performBobbinChanged (h : s.motionless) (p : List Byte) : (performBobbinChanged p s).motionless := by
  unfold Machine.performBobbinChanged
  repeat' split
  · exact h.refuse ..
  · exact reply (clearCause (setHead h _ _) _) ..
  · exact h.refuse ..

/-- A frame that stands still. -/
theorem stands {f : FrameState} (h : f = .unknown ∨ ∃ p, f = .known p) : f.isMoving = false ∧ f.isHoming = false := by
  rcases h with rfl | ⟨p, rfl⟩ <;> exact ⟨rfl, rfl⟩

/-- A configuration keeps a frame that stands still standing still (R75, R199). -/
theorem configure (h : s.motionless) (cfg : Configuration) : (s.configure cfg).motionless := by
  have ⟨line, run, command, shaft, _, _, carriage⟩ := h
  have still : (s.frame.refield cfg).state = .unknown ∨ ∃ p, (s.frame.refield cfg).state = .known p := by
    unfold FrameUnit.refield
    rcases h.frame with e | ⟨p, e⟩
    · simp [e]
    · simp only [e]
      split
      · exact .inr ⟨p, e⟩
      · exact .inl rfl
  exact ⟨line, run, command, shaft, (stands still).1, (stands still).2, carriage⟩

theorem performConfigure (h : s.motionless) (p : List Byte) : (performConfigure p s).motionless := by
  unfold Machine.performConfigure State.configureFields
  split
  · exact h.refuse ..
  · refine h.checked _ fun _ => ?_
    split
    · exact h.reply ..
    · exact (h.configure _).reply ..

theorem flawReply (h : s.motionless) (flaw : FrameFlaw) : (flawReply flaw s).motionless := by
  unfold Machine.flawReply
  split <;> exact h.refuse ..

/-! ## The events -/

theorem clearStall (h : s.motionless) : s.clearStall.motionless := by
  unfold State.clearStall
  split
  · exact h.clearCause _
  · exact h

theorem windowOpen (h : s.motionless) : s.windowOpen.motionless := by
  rcases h.shaft with e | e <;> simpa [State.windowOpen, e] using h.clearStall

theorem windowClose (h : s.motionless) : s.windowClose.motionless := by
  have overrun : s.overrun.motionless := by
    unfold State.overrun
    split <;> exact h.same rfl
  unfold State.windowClose State.fireTrimmers
  repeat' split
  · exact overrun
  · exact overrun.same rfl
  · exact overrun

theorem turnTo (h : s.motionless) (c : BitVec 10) (x : Bool) : (s.turnTo c x).motionless := by
  have turned : State.motionless { s with shaft := { s.shaft with angle := c, atRest := false, crossed := x } } :=
    h.same rfl
  have same := h.carriage
  refine bandCheck ?_
  split
  · simpa [State.shaftMoved, same] using turned
  · exact turned

theorem comeToRest (h : s.motionless) : s.comeToRest.motionless := by
  obtain ⟨line, run, command, shaft, rest⟩ := h
  have stands : (s.shaft.comeToRest s.config).command = 0 ∧ (s.shaft.comeToRest s.config).state = .still := by
    rcases shaft with e | e <;> simp [Shaft.comeToRest, e, command]
  exact latchesOffAtRest ⟨line, run, stands.1, .inl stands.2, rest⟩

theorem codeChange (h : s.motionless) (code : Fin 16) : (s.codeChange code).motionless := by
  have same := h.carriage
  unfold State.codeChange
  simp only [same]
  exact h.same (by simp [State.motion, same])

/-- A burst that completes for an idle feed moves nothing. -/
theorem burstComplete (h : s.motionless) (idle : s.feed.activity = .idle) (hx : execBurstComplete s = .next t) :
    t.motionless := by
  have result {b : Burst} {u : State} (hr : State.burstResult b { s with burst := none } = .next u) : u.motionless := by
    unfold State.burstResult at hr
    split at hr
    · cases hr
      unfold State.loaderBurst
      dsimp only
      split <;> exact h.same rfl
    · split at hr <;> cases hr
      · exact h.same rfl
      · unfold State.readbackBurst
        dsimp only
        repeat' split
        all_goals exact h.same rfl
    · dsimp only at hr
      repeat' split at hr
      all_goals cases hr
      · exact h.same rfl
      · simpa [State.feedBurst, idle] using h.same (t := { s with burst := none }) rfl
  unfold execBurstComplete at hx
  split at hx
  · cases hx; exact h
  · split at hx
    · rename_i b _ _
      cases hr : State.burstResult b { s with burst := none } <;> rw [hr] at hx <;> cases hx
      exact (result hr).settle
    · cases hx

/-- The emergency halt with the line active stops everything (R88, R108, R127, R169). -/
theorem emergencyHalt (line : s.haltLine = true) (r : StopReason) : (s.emergencyHalt r).motionless := by
  have frame : s.haltedFrame.state = .unknown ∨ ∃ p, s.haltedFrame.state = .known p := by
    unfold State.haltedFrame FrameUnit.halt
    cases hf : s.frame.state <;> dsimp only <;> split <;> simp [hf]
  have ⟨moving, homing⟩ := stands frame
  unfold State.emergencyHalt
  generalize hu : State.latchesOffAtRest _ = u
  have halted : u.haltLine = true ∧ u.shaft.command = 0 ∧ (u.shaft.state = .still ∨ u.shaft.state = .coasting) ∧
      u.frame.state.isMoving = false ∧ u.frame.state.isHoming = false ∧ u.carriage.state = .idle := by
    subst hu
    simpa using ⟨line, s.shaft.halt_state, moving, homing⟩
  obtain ⟨line, command, shaft, moving, homing, carriage⟩ := halted
  unfold State.enterHalted
  dsimp only
  split
  · rename_i idle; exact ⟨line, .inl idle, command, shaft, moving, homing, carriage⟩
  · rename_i run; exact ⟨line, .inr run, command, shaft, moving, homing, carriage⟩
  all_goals exact ⟨line, .inr rfl, command, shaft, moving, homing, carriage⟩

theorem cold (line : s.haltLine = true) (cause : ResetCause) (store : List Host.Cell) (free : Nat) :
    (s.cold cause store free).motionless := by
  refine ⟨line, .inl rfl, rfl, ?_, rfl, rfl, rfl⟩
  change (if s.shaft.atRest then ShaftState.still else .coasting) = _ ∨
    (if s.shaft.atRest then ShaftState.still else .coasting) = _
  split <;> simp

theorem linkReset (h : s.motionless) : s.linkReset.motionless := by
  have carriage := h.carriage
  have stop : (s.frame.linkReset).state = .unknown ∨ ∃ p, (s.frame.linkReset).state = .known p := by
    rcases h.frame with e | ⟨p, e⟩ <;> simp [FrameUnit.linkReset, FrameUnit.halt, e]
  refine latchesOffAtRest ⟨h.line, .inl rfl, rfl, ?_, (stands stop).1, (stands stop).2, rfl⟩
  change (if s.shaft.atRest then ShaftState.still else .coasting) = _ ∨
    (if s.shaft.atRest then ShaftState.still else .coasting) = _
  split <;> simp

/-- With the line active nothing that a command does starts a motion; only its becoming inactive ends this (R169). -/
theorem exec (h : s.motionless) (idle : s.feed.activity = .idle) (c : Instr) (hx : Machine.exec c s = .next t)
    (line : t.haltLine = true) : t.motionless := by
  have carriage := h.carriage
  have stands := h.frame
  cases c with
  | powerOn => cases hx; exact cold h.line ..
  | resetPin => cases hx; exact cold h.line ..
  | linkReset => cases hx; exact h.linkReset
  | frameAssembled b =>
    change execFrameAssembled b s = .next t at hx
    unfold execFrameAssembled at hx
    split at hx <;> cases hx <;> exact h.same rfl
  | frameGapTimeout => cases hx; exact h.same rfl
  | badFrame flaw => cases hx; exact h.takeFrame _ fun _ ht => ht.flawReply flaw
  | unknownCommand code p =>
    change execUnknownCommand code p s = .next t at hx
    unfold execUnknownCommand at hx
    split at hx <;> cases hx
    · exact h
    · exact h.takeFrame _ fun _ ht => ht.refuse ..
  | replyPlaced => cases hx; exact h.same rfl
  | identify p => cases hx; exact h.takeFrame _ fun _ ht => ht.noArgument _ _ (ht.reply ..)
  | status p => cases hx; exact h.takeFrame _ fun _ ht => ht.noArgument _ _ (ht.same rfl)
  | headStatus p => cases hx; exact h.takeFrame _ fun _ ht => ht.noArgument _ _ (ht.reply ..)
  | needleStatus p => cases hx; exact h.takeFrame _ fun _ ht => ht.noArgument _ _ (ht.reply ..)
  | readConfig p => cases hx; exact h.takeFrame _ fun _ ht => ht.noArgument _ _ (ht.reply ..)
  | configure p => cases hx; exact h.takeFrame _ fun _ ht => ht.performConfigure p
  | reset p => cases hx; exact h.takeFrame _ fun _ ht => ht.noArgument _ _ (ht.same rfl)
  | loadOpen p => cases hx; exact h.takeFrame _ fun _ ht => ht.performLoadOpen p
  | loadData p => cases hx; exact h.takeFrame _ fun _ ht => ht.performLoadData p
  | loadClose p => cases hx; exact h.takeFrame _ fun _ ht => ht.performLoadClose p
  | loadCancel p => cases hx; exact h.takeFrame _ fun _ ht => ht.performLoadCancel p
  | readRecords p => cases hx; exact h.takeFrame _ fun _ ht => ht.performReadRecords p
  | retire p => cases hx; exact h.takeFrame _ fun _ ht => ht.oneDesign _ _ fun _ => ht.checked _ fun _ => ht.same rfl
  | lock p => cases hx; exact h.takeFrame _ fun _ ht => ht.oneDesign _ _ fun _ => ht.checked _ fun _ => ht.same rfl
  | unlock p => cases hx; exact h.takeFrame _ fun _ ht => ht.oneDesign _ _ fun _ => ht.checked _ fun _ => ht.same rfl
  | describe p => cases hx; exact h.takeFrame _ fun _ ht => ht.oneDesign _ _ fun _ => ht.reply ..
  | listDesigns p => cases hx; exact h.takeFrame _ fun _ ht => ht.noArgument _ _ (ht.reply ..)
  | start p => cases hx; exact h.takeFrame _ fun _ ht => ht.performStart p
  | resume p => cases hx; exact h.takeFrame _ fun _ ht => ht.performResume p
  | stop p => cases hx; exact h.takeFrame _ fun _ ht => ht.performStop p
  | quickStop p => cases hx; exact h.takeFrame _ fun _ ht => ht.performQuickStop p
  | abort p => cases hx; exact h.takeFrame _ fun _ ht => ht.performAbort p
  | back p => cases hx; exact h.takeFrame _ fun _ ht => ht.walkRequest 0x25 .backward p
  | forward p => cases hx; exact h.takeFrame _ fun _ ht => ht.walkRequest 0x26 .forward p
  | setSpeed p => cases hx; exact h.takeFrame _ fun _ ht => ht.performSetSpeed p
  | home p => cases hx; exact h.takeFrame _ fun _ ht => ht.performHome p
  | frameMove p => cases hx; exact h.takeFrame _ fun _ ht => ht.performFrameMove p
  | shaftToTdc p => cases hx; exact h.takeFrame _ fun _ ht => ht.performShaftToTdc p
  | selectNeedle p => cases hx; exact h.takeFrame _ fun _ ht => ht.performSelectNeedle p
  | assign p => cases hx; exact h.takeFrame _ fun _ ht => ht.performAssign p
  | clearNeedle p => cases hx; exact h.takeFrame _ fun _ ht => ht.performClearNeedle p
  | spool p => cases hx; exact h.takeFrame _ fun _ ht => ht.performSpool p
  | mend p => cases hx; exact h.takeFrame _ fun _ ht => ht.performMend p
  | headEnable p => cases hx; exact h.takeFrame _ fun _ ht => ht.performHeadEnable p
  | bobbinChanged p => cases hx; exact h.takeFrame _ fun _ ht => ht.performBobbinChanged p
  | nextCondition p => cases hx; exact h.takeFrame _ fun _ ht => ht.performNextCondition p
  | listConditions p => cases hx; exact h.takeFrame _ fun _ ht => ht.performListConditions p
  | ackCondition p => cases hx; exact h.takeFrame _ fun _ ht => ht.performAckCondition p
  | burstComplete => exact h.burstComplete idle hx
  | encoderCountChange c =>
    change execEncoderCountChange c s = .next t at hx
    unfold execEncoderCountChange at hx
    dsimp only at hx
    repeat' split at hx
    all_goals cases hx
    · exact h
    · exact (h.turnTo ..).windowOpen.arbitrate
    · exact (h.turnTo ..).windowClose
    · exact h.turnTo ..
  | windowOpenCrossing =>
    change execWindowOpenCrossing s = .next t at hx
    unfold execWindowOpenCrossing at hx
    dsimp only at hx
    split at hx <;> cases hx
    · exact h.same rfl
    · exact (h.turnTo ..).windowOpen.arbitrate
  | windowCloseCrossing =>
    change execWindowCloseCrossing s = .next t at hx
    unfold execWindowCloseCrossing at hx
    dsimp only at hx
    split at hx <;> cases hx
    · exact h.same rfl
    · exact (h.turnTo ..).windowClose
  | shaftAtRest =>
    change execShaftAtRest s = .next t at hx
    unfold execShaftAtRest at hx
    split at hx <;> cases hx
    · exact h
    · exact h.comeToRest.settle
  | moveComplete =>
    change execMoveComplete s = .next t at hx
    rcases stands with e | ⟨p, e⟩ <;> simp only [execMoveComplete, e] at hx <;> cases hx <;> exact h
  | homeSwitchActive axis =>
    cases hx
    rcases stands with e | ⟨p, e⟩ <;> exact h.same (by simp [State.motion, FrameUnit.switchActive, e])
  | homeTravelLimit axis =>
    cases hx
    rcases stands with e | ⟨p, e⟩ <;> exact h.same (by simp [State.motion, FrameUnit.travelLimit, e])
  | carriageCodeChange code =>
    change execCarriageCodeChange code s = .next t at hx
    unfold execCarriageCodeChange at hx
    split at hx <;> cases hx
    · exact h
    · exact (h.codeChange _).settle
  | carriageStepTimeout => cases hx; simpa [State.stepTimeout, carriage] using h
  | carriageSettleEnd =>
    change execCarriageSettleEnd s = .next t at hx
    simp only [execCarriageSettleEnd, carriage] at hx
    cases hx; exact h
  | threadPulse i =>
    change execThreadPulse i s = .next t at hx
    unfold execThreadPulse at hx
    dsimp only at hx
    split at hx <;> cases hx
    · exact h.setHead ..
    · exact h
  | stopLineActive =>
    change execStopLineActive s = .next t at hx
    unfold execStopLineActive at hx
    split at hx <;> cases hx
    · exact h
    · exact (stopRun (h.same (t := { s with stopLine := true }) rfl) _).settle
  | haltLineActive =>
    change execHaltLineActive s = .next t at hx
    simp only [execHaltLineActive, h.line] at hx
    cases hx; exact h
  | haltLineInactive =>
    change execHaltLineInactive s = .next t at hx
    simp only [execHaltLineInactive, h.line] at hx
    cases hx
    have off := congrArg (fun x => x.2.2.2.2.2.1) (State.settle_inert { s with haltLine := false })
    exact absurd (line.symm.trans off) Bool.noConfusion
  | shaftStall =>
    change execShaftStall s = .next t at hx
    simp only [execShaftStall, State.supervised, h.command] at hx
    cases hx; exact h
  | byteArrives b => cases hx; exact h.same rfl
  | stopLineInactive => cases hx; exact h.same rfl

theorem drift (h : s.motionless) : s.drift.motionless := by
  have same : s.frame.pulse s.config = s.frame := by
    rcases h.frame with e | ⟨p, e⟩ <;> simp [FrameUnit.pulse, e]
  refine h.same ?_
  simp [State.motion, State.drift, same]

end State.motionless

/-- Only HALT_LINE_ACTIVE makes the halt line active. -/
theorem Deed.haltLine (d : Deed sure s t) (line : t.haltLine = true) : s.haltLine = true := by
  have same (h : t.tableView = s.tableView) : s.haltLine = true := (congrArg (·.2.2.2) h).symm.trans line
  cases d with
  | aside h => exact same (congrArg Prod.fst h)
  | opens k n d p eq => subst eq; exact line
  | clears k eq => simpa [eq] using line
  | acks k eq => simpa [eq] using line
  | stores base first ws eq => subst eq; exact line
  | shaft _ _ table _ => exact same table
  | run _ table _ => exact same table
  | configures _ _ _ _ table _ => exact same table
  | frees eq => rw [eq] at line; cases line
  | resets eq => exact (congrArg (·.2.2.2) State.linkReset_tableView).symm.trans (eq ▸ line)

end Sys2Proof.Machine

namespace Sys2Proof.Proofs

open Sys2Proof.Machine

/-- Settles O59: the emergency halt stops everything, and with the line active no command starts a motion. -/
theorem stepKeepsHaltHolds : Obligations.StepKeepsHaltHolds := by
  intro s t held holds hx line
  have still (h : s.haltLine = true) : s.motionless := State.motionless_iff.2 ⟨h, holds⟩
  suffices t.motionless from (State.motionless_iff.1 this).2 line
  obtain ⟨u, hu, done⟩ := step_cases hx
  have before : u.haltLine = true → u.motionless ∧ u.feed.activity = .idle := by
    have idle (h : s.haltLine = true) : s.feed.activity = .idle := by
      have ⟨run, _⟩ := holds h
      exact (held.1 (run.imp_right .inr)).2
    rcases hu with hu | ⟨hu, -⟩
    · intro h
      rw [hu] at h ⊢
      exact ⟨(still h).same rfl, idle h⟩
    · intro h
      rw [hu] at h ⊢
      exact ⟨(still h).drift, idle h⟩
  rcases done with rfl | ⟨c, hc, -⟩
  · exact (before line).1
  · by_cases halt : c = .haltLineActive
    · subst halt
      change execHaltLineActive u = .next t at hc
      unfold execHaltLineActive at hc
      split at hc <;> cases hc
      · exact (before line).1
      · exact State.motionless.emergencyHalt rfl _
    · have active : u.haltLine = true := by
        by_cases status : ∃ p, c = .status p
        · obtain ⟨p, rfl⟩ := status
          obtain ⟨l, rfl⟩ := exec_status_cases p hc
          exact line
        by_cases power : c = .powerOn
        · subst power; cases hc; exact line
        by_cases pin : c = .resetPin
        · subst pin; cases hc; exact line
        have does : Does False u t :=
          (Does.refl False u).exec c hc (fun p e => status ⟨p, e⟩) power pin halt fun h => h.elim
        exact does.keeps (P := fun v => v.haltLine = true → u.haltLine = true)
          (fun _ _ deed kept on => kept (deed.haltLine on)) id line
      exact (before active).1.exec (before active).2 c hc line

end Sys2Proof.Proofs
end

section
/-! PROOFS. The step, and the link interface: what arrives, what is answered, and when a request is taken. -/

namespace Sys2Proof.Machine

variable {s t : State}

/-! ## Taking a request -/

/-- A request that the link interface takes at once does its work. -/
theorem exec_of_served {c : Instr} {act : State → State} (hs : s.served) (hx : exec c s = .next (s.takeFrame c act)) :
    exec c s = .next (act s) := hx.trans (congrArg Host.Outcome.next (State.takeFrame_served c act s hs))

theorem exec_badFrame_served (hs : s.served) (flaw : FrameFlaw) : exec (.badFrame flaw) s = .next (flawReply flaw s) :=
  exec_of_served hs rfl

theorem exec_unknownCommand {code : Byte} (p : List Byte) (unlisted : code ∉ requestCodes) :
    exec (.unknownCommand code p) s =
      .next (s.takeFrame (.unknownCommand code p) (State.refuse code .unknownCommand)) := by
  change execUnknownCommand code p s = _
  simp [execUnknownCommand, unlisted]

/-! ## The step -/

theorem step_of_pending {c : Instr} {rest : List Instr} (h : s.pending = c :: rest) :
    step s = exec c { s with pending := rest } := by
  unfold step; rw [h]

theorem step_of_idle (h : s.pending = []) : step s = s.drift.serveLink := by
  unfold step; rw [h]; rfl

theorem Link.sendByte_ready (l : Link) : l.sendByte.ready = l.ready := by
  unfold Link.sendByte; repeat' split
  all_goals rfl

theorem Link.sendByte_rx (l : Link) : l.sendByte.rx = l.rx := by
  unfold Link.sendByte; repeat' split
  all_goals rfl

theorem State.serveLink_of_idle (h : s.link.ready = false ∨ s.link.rx = []) : s.serveLink = .next s := by
  rcases h with h | h <;> simp [State.serveLink, h]

theorem State.serveLink_of_frame {f : RxFrame} {rest : List RxFrame} (ready : s.link.ready = true)
    (oldest : s.link.rx = f :: rest) : s.serveLink = exec f.command s := by
  simp [State.serveLink, ready, oldest]

/-! ## Bytes that arrive (R190, R191) -/

theorem Link.byteArrives_eq (b : Byte) (l : Link) :
    l.byteArrives b = match l.asm with
      | .hunting => if b = Config.marker then { l with asm := .length } else l
      | .length =>
        if b.toNat = 0 ∨ 200 < b.toNat ∨ 256 ≤ l.rxUsed then { l with asm := .hunting }
        else { l with asm := .body b.toNat [] }
      | .body n got =>
        if got.length + 1 < n then { l with asm := .body n (got ++ [l.stored b]) }
        else { l with asm := .check n (got ++ [l.stored b]) }
      | .check n got => { l with asm := .hunting, rx := l.rx ++ [{ length := n, body := got, check := l.stored b }] } := by
  unfold Link.byteArrives
  cases l.asm with
  | hunting => rfl
  | length =>
    have fits : (1 ≤ b.toNat ∧ b.toNat ≤ 200 ∧ l.rxUsed < Config.fifoBytes) ↔
        ¬(b.toNat = 0 ∨ 200 < b.toNat ∨ 256 ≤ l.rxUsed) := by
      unfold Config.fifoBytes; omega
    simp only [fits, ite_not]
  | body n got => simp
  | check n got => rfl

/-! ## STATUS (R195) -/

theorem State.statusReport_attention : s.statusReport.attention = true ↔
    s.link.runChange = true ∨ ∃ c ∈ s.conditions, c.state ≠ .held := by
  simp [State.statusReport, State.attention, Condition.unacked, or_comm]

end Sys2Proof.Machine

namespace Sys2Proof.Proofs

open Sys2Proof.Machine

/-- Settles O1: the front command is done, or the pulses, the transmitter and the link interface go on. -/
theorem stepRunsFrontCommand : Obligations.StepRunsFrontCommand := by
  refine ⟨fun c rest s h => step_of_pending h, fun s idle => ?_⟩
  intro pulsed frame link passed
  have drift : s.drift = passed := by
    have frames : s.frame.pulse s.config = frame := by
      simp only [frame]
      cases hf : s.frame.state <;> simp only [FrameUnit.pulse, hf] <;> rfl
    have links : s.link.sendByte = link := by
      simp only [link]
      cases hl : s.link.tx <;> simp only [Link.sendByte, hl]
    simp only [passed, State.drift, frames, links]
  rw [step_of_idle idle, ← drift]
  have ready : s.drift.link.ready = s.link.ready := Link.sendByte_ready _
  have rx : s.drift.link.rx = s.link.rx := Link.sendByte_rx _
  rw [← ready, ← rx]
  exact ⟨State.serveLink_of_idle, fun f rest => State.serveLink_of_frame⟩

/-- Settles O6: the assembler's case for each state, the check byte being kept or lost as any other. -/
theorem bytesReceived : Obligations.BytesReceived := by
  refine ⟨fun b s => ?_, fun b n got s check => ?_, fun _ => rfl⟩
  · change Host.Outcome.next { s with link := s.link.byteArrives b } = _
    rw [Link.byteArrives_eq]
    rfl
  · have same : exec (.frameAssembled b) s = exec (.byteArrives b) s := by
      change execFrameAssembled b s = execByteArrives b s
      simp [execFrameAssembled, execByteArrives, check]
    exact ⟨same, _, same.trans rfl⟩

/-- Settles O7: a flawed or an unknown frame is refused, which places a reply on the link. -/
theorem flawedFramesAnswered : Obligations.FlawedFramesAnswered := by
  intro s hs
  refine ⟨fun code => exec_badFrame_served hs _, fun first => exec_badFrame_served hs _, fun code p unlisted => ?_⟩
  exact exec_of_served hs (exec_unknownCommand p unlisted)

/-- Settles O9: each reply's items are read off the state. -/
theorem statusRequestsAnswered : Obligations.StatusRequestsAnswered := by
  intro s hs
  refine ⟨exec_of_served hs rfl, exec_of_served hs rfl, exec_of_served hs rfl, s.statusReport, ?_⟩
  refine ⟨exec_of_served (act := performStatus []) hs rfl, rfl, State.statusReport_attention, rfl, rfl, rfl, rfl, rfl, rfl, rfl, rfl, rfl,
    fun h => ?_, fun q h => ?_, rfl, rfl, rfl, rfl, rfl, rfl, rfl, rfl, fun p h => ?_, fun m h => ?_, fun h => ?_,
    rfl, rfl, rfl, rfl, rfl, fun h => ?_, fun n h => ?_, rfl, fun h => ?_, fun c x cursor h load => ?_⟩
  · simp [State.statusReport, h]
  · simp only [State.statusReport, h]; rfl
  · simp [State.statusReport, h, FrameState.position?]
  · simp [State.statusReport, h, FrameState.position?]
  · simp only [State.statusReport]
    cases hf : s.frame.state <;> simp [hf, FrameState.position?, FrameState.isHoming] at h ⊢
  · simp [State.statusReport, State.needleReport, h]
  · simp [State.statusReport, State.needleReport, h, needleNumber]
  · simp [State.statusReport, State.loadReport, h]
  · simp [State.statusReport, State.loadReport, h, load]

end Sys2Proof.Proofs
end

section
/-! PROOFS. Stitch records and their words (R2, R3). -/

namespace Sys2Proof.Machine

/-- A decoded record is legal, and its word is the one it was decoded from. -/
def Record.isOf (r : Record) (w : Word) : Prop := r.legal = true ∧ encodeRecord r = w

variable {w : Word}

/-! ## From a word to its record and back -/

/-- The kind of a word as a field of four bits. -/
theorem kind_eq {k : Nat} (h : (w.extractLsb' 28 4).toNat = k) : w.extractLsb' 28 4 = BitVec.ofNat 4 k := by
  rw [← h, BitVec.ofNat_toNat]; simp

theorem ofNat_toNat_self {n : Nat} (b : BitVec n) : BitVec.ofNat n b.toNat = b := by simp

/-- The range of a signed field. -/
theorem toInt_range {n : Nat} (b : BitVec n) : -(2 ^ n : Int) ≤ 2 * b.toInt ∧ 2 * b.toInt < 2 ^ n :=
  ⟨b.le_two_mul_toInt, b.two_mul_toInt_lt⟩

theorem isOf_stitch (kind : w.extractLsb' 28 4 = 0) (spare : w.extractLsb' 16 12 = 0)
    (x : (w.extractLsb' 8 8).toInt ≠ -128) (y : (w.extractLsb' 0 8).toInt ≠ -128) :
    (Record.stitch (w.extractLsb' 8 8).toInt (w.extractLsb' 0 8).toInt).isOf w := by
  constructor
  · have := toInt_range (w.extractLsb' 8 8)
    have := toInt_range (w.extractLsb' 0 8)
    simp only [Record.legal, decide_eq_true_eq]
    omega
  · simp only [encodeRecord, BitVec.ofInt_toInt]
    rw [← kind, ← spare]
    ext i hi
    grind

theorem isOf_jump (kind : w.extractLsb' 28 4 = 1) (spare : w.extractLsb' 24 4 = 0)
    (x : (w.extractLsb' 12 12).toInt ≠ -2048) (y : (w.extractLsb' 0 12).toInt ≠ -2048) :
    (Record.jump (w.extractLsb' 12 12).toInt (w.extractLsb' 0 12).toInt).isOf w := by
  constructor
  · have := toInt_range (w.extractLsb' 12 12)
    have := toInt_range (w.extractLsb' 0 12)
    simp only [Record.legal, decide_eq_true_eq]
    omega
  · simp only [encodeRecord, BitVec.ofInt_toInt]
    rw [← kind, ← spare]
    ext i hi
    grind

/-- A word of a kind with every other bit clear. -/
theorem word_of_kind {k : BitVec 4} (kind : w.extractLsb' 28 4 = k) (spare : w.extractLsb' 0 28 = 0) :
    k ++ (0 : BitVec 28) = w := by
  rw [← kind, ← spare]
  ext i hi
  grind

theorem isOf_colour (kind : w.extractLsb' 28 4 = 3) (spare : w.extractLsb' 16 12 = 0) :
    (Record.colour (w.extractLsb' 0 16)).isOf w := by
  refine ⟨rfl, ?_⟩
  simp only [encodeRecord]
  rw [← kind, ← spare]
  ext i hi
  grind

theorem isOf_call (kind : w.extractLsb' 28 4 = 4) (high : w.extractLsb' 21 7 = 0) (low : w.extractLsb' 4 12 = 0) :
    (Record.call (w.extractLsb' 16 5).toFin ((w.extractLsb' 0 4).toNat + 1)).isOf w := by
  constructor
  · have := (w.extractLsb' 0 4).isLt
    simp only [Record.legal, decide_eq_true_eq]
    omega
  · have motif : BitVec.ofNat 5 (w.extractLsb' 16 5).toFin.val = w.extractLsb' 16 5 := ofNat_toNat_self _
    simp only [encodeRecord, Nat.add_sub_cancel, motif, ofNat_toNat_self]
    rw [← kind, ← high, ← low]
    ext i hi
    grind

/-- What a word decodes to is legal and has that word. -/
theorem isOf_of_decodeRecord {r : Record} (h : decodeRecord w = some r) : r.isOf w := by
  unfold decodeRecord at h
  split at h
  all_goals rename_i kind
  case h_8 => cases h
  all_goals
    have kind := kind_eq kind
    obtain ⟨spare, h⟩ := Option.ite_none_right_eq_some.1 h
    cases h
  · exact isOf_stitch kind spare.1 spare.2.1 spare.2.2
  · exact isOf_jump kind spare.1 spare.2.1 spare.2.2
  · exact ⟨rfl, word_of_kind kind spare⟩
  · exact isOf_colour kind spare
  · exact isOf_call kind spare.1 spare.2
  · exact ⟨rfl, word_of_kind kind spare⟩
  · exact ⟨rfl, word_of_kind kind spare⟩

/-! ## From a record to its word and back -/

/-- The fields of a STITCH word. -/
theorem stitch_fields (a : BitVec 4) (b : BitVec 12) (c d : BitVec 8) :
    (a ++ b ++ c ++ d).extractLsb' 28 4 = a ∧ (a ++ b ++ c ++ d).extractLsb' 16 12 = b ∧
      (a ++ b ++ c ++ d).extractLsb' 8 8 = c ∧ (a ++ b ++ c ++ d).extractLsb' 0 8 = d := by
  refine ⟨?_, ?_, ?_, ?_⟩ <;> ext i hi <;> grind

/-- The fields of a JUMP word. -/
theorem jump_fields (a b : BitVec 4) (c d : BitVec 12) :
    (a ++ b ++ c ++ d).extractLsb' 28 4 = a ∧ (a ++ b ++ c ++ d).extractLsb' 24 4 = b ∧
      (a ++ b ++ c ++ d).extractLsb' 12 12 = c ∧ (a ++ b ++ c ++ d).extractLsb' 0 12 = d := by
  refine ⟨?_, ?_, ?_, ?_⟩ <;> ext i hi <;> grind

/-- The fields of a COLOUR word. -/
theorem colour_fields (a : BitVec 4) (b : BitVec 12) (c : BitVec 16) :
    (a ++ b ++ c).extractLsb' 28 4 = a ∧ (a ++ b ++ c).extractLsb' 16 12 = b ∧ (a ++ b ++ c).extractLsb' 0 16 = c := by
  refine ⟨?_, ?_, ?_⟩ <;> ext i hi <;> grind

/-- The fields of a CALL word. -/
theorem call_fields (a : BitVec 4) (b : BitVec 7) (c : BitVec 5) (d : BitVec 12) (e : BitVec 4) :
    (a ++ b ++ c ++ d ++ e).extractLsb' 28 4 = a ∧ (a ++ b ++ c ++ d ++ e).extractLsb' 21 7 = b ∧
      (a ++ b ++ c ++ d ++ e).extractLsb' 16 5 = c ∧ (a ++ b ++ c ++ d ++ e).extractLsb' 4 12 = d ∧
      (a ++ b ++ c ++ d ++ e).extractLsb' 0 4 = e := by
  refine ⟨?_, ?_, ?_, ?_, ?_⟩ <;> ext i hi <;> grind

theorem decodeRecord_stitch {dx dy : Int} (x : -127 ≤ dx ∧ dx ≤ 127) (y : -127 ≤ dy ∧ dy ≤ 127) :
    decodeRecord (encodeRecord (.stitch dx dy)) = some (.stitch dx dy) := by
  obtain ⟨kind, spare, high, low⟩ := stitch_fields 0 0 (BitVec.ofInt 8 dx) (BitVec.ofInt 8 dy)
  have hx : (BitVec.ofInt 8 dx).toInt = dx := BitVec.toInt_ofInt_eq_self (by decide) (by omega) (by omega)
  have hy : (BitVec.ofInt 8 dy).toInt = dy := BitVec.toInt_ofInt_eq_self (by decide) (by omega) (by omega)
  unfold decodeRecord encodeRecord
  rw [kind, spare, high, low, hx, hy]
  exact if_pos ⟨rfl, by omega, by omega⟩

theorem decodeRecord_jump {dx dy : Int} (x : -2047 ≤ dx ∧ dx ≤ 2047) (y : -2047 ≤ dy ∧ dy ≤ 2047) :
    decodeRecord (encodeRecord (.jump dx dy)) = some (.jump dx dy) := by
  obtain ⟨kind, spare, high, low⟩ := jump_fields 1 0 (BitVec.ofInt 12 dx) (BitVec.ofInt 12 dy)
  have hx : (BitVec.ofInt 12 dx).toInt = dx := BitVec.toInt_ofInt_eq_self (by decide) (by omega) (by omega)
  have hy : (BitVec.ofInt 12 dy).toInt = dy := BitVec.toInt_ofInt_eq_self (by decide) (by omega) (by omega)
  unfold decodeRecord encodeRecord
  rw [kind, spare, high, low, hx, hy]
  exact if_pos ⟨rfl, by omega, by omega⟩

theorem decodeRecord_colour (code : Half) : decodeRecord (encodeRecord (.colour code)) = some (.colour code) := by
  obtain ⟨kind, spare, low⟩ := colour_fields 3 0 code
  unfold decodeRecord encodeRecord
  rw [kind, spare, low]
  rfl

theorem decodeRecord_call (motif : Design) {reps : Nat} (h : 1 ≤ reps ∧ reps ≤ 16) :
    decodeRecord (encodeRecord (.call motif reps)) = some (.call motif reps) := by
  obtain ⟨kind, above, high, between, low⟩ :=
    call_fields 4 0 (BitVec.ofNat 5 motif.val) 0 (BitVec.ofNat 4 (reps - 1))
  have hm : (BitVec.ofNat 5 motif.val).toFin = motif := Fin.ext (Nat.mod_eq_of_lt motif.isLt)
  have hr : (BitVec.ofNat 4 (reps - 1)).toNat + 1 = reps := by rw [BitVec.toNat_ofNat]; omega
  unfold decodeRecord encodeRecord
  rw [kind, above, between, high, low, hm, hr]
  rfl

theorem decodeRecord_encodeRecord {r : Record} (h : r.legal = true) : decodeRecord (encodeRecord r) = some r := by
  cases r with
  | stitch dx dy =>
    obtain ⟨x, x', y, y'⟩ := of_decide_eq_true h
    exact decodeRecord_stitch ⟨x, x'⟩ ⟨y, y'⟩
  | jump dx dy =>
    obtain ⟨x, x', y, y'⟩ := of_decide_eq_true h
    exact decodeRecord_jump ⟨x, x'⟩ ⟨y, y'⟩
  | trim => rfl
  | colour code => exact decodeRecord_colour code
  | call motif reps => exact decodeRecord_call motif (of_decide_eq_true h)
  | pause => rfl
  | endRec => rfl

end Sys2Proof.Machine

namespace Sys2Proof.Proofs

open Sys2Proof.Machine

/-- Settles O2: the fields of a word are read back from their places, and no bit lies outside them. -/
theorem recordRoundTrip : Obligations.RecordRoundTrip :=
  ⟨fun _ legal => decodeRecord_encodeRecord legal, fun _ _ decoded => isOf_of_decodeRecord decoded⟩

end Sys2Proof.Proofs
end

section
/-! PROOFS. The 52 bytes of a configuration record give its fields back (R198, R200). -/

namespace Sys2Proof.Machine

/-- A half word is read back from its two bytes. -/
theorem half_of_bytes (h : Half) : half (h.extractLsb' 0 8) (h.extractLsb' 8 8) = h := by
  unfold half
  ext i hi
  grind

/-- One value for each field, and each fits. -/
inductive FieldsFit : List (Nat × Bool) → List Int → Prop
  | nil : FieldsFit [] []
  | byte {signed : Bool} {v : Int} {shapes : List (Nat × Bool)} {vs : List Int} (fits : 0 ≤ v ∧ v < 256)
      (rest : FieldsFit shapes vs) : FieldsFit ((1, signed) :: shapes) (v :: vs)
  | natural {v : Int} {shapes : List (Nat × Bool)} {vs : List Int} (fits : 0 ≤ v ∧ v < 65536)
      (rest : FieldsFit shapes vs) : FieldsFit ((2, false) :: shapes) (v :: vs)
  | signed {v : Int} {shapes : List (Nat × Bool)} {vs : List Int} (fits : -32768 ≤ v ∧ v < 32768)
      (rest : FieldsFit shapes vs) : FieldsFit ((2, true) :: shapes) (v :: vs)

theorem natural_of_bytes {n : Nat} {v : Int} (low : 0 ≤ v) (high : v < 2 ^ n) : ((BitVec.ofInt n v).toNat : Int) = v := by
  rw [BitVec.toNat_ofInt, Int.emod_eq_of_lt low (by exact_mod_cast high)]
  omega

/-- Field values are read back from their bytes (R200). -/
theorem fieldValues_fieldBytes {shapes : List (Nat × Bool)} {vs : List Int} (fit : FieldsFit shapes vs) :
    fieldValues shapes (fieldBytes shapes vs) = some vs := by
  induction fit with
  | nil => rfl
  | byte fits _ ih => simp only [fieldBytes, fieldValues, ih, Option.map_some,
      natural_of_bytes (n := 8) fits.1 (by omega)]
  | natural fits _ ih =>
    simp only [fieldBytes, halfBytes, List.cons_append, List.nil_append, fieldValues, ih, Option.map_some, half_of_bytes,
      Bool.false_eq_true, if_false, natural_of_bytes (n := 16) fits.1 (by omega)]
  | signed fits _ ih =>
    have read (v : Int) (low : -32768 ≤ v) (high : v < 32768) : (BitVec.ofInt 16 v).toInt = v :=
      BitVec.toInt_ofInt_eq_self (by decide) (by omega) (by omega)
    simp only [fieldBytes, halfBytes, List.cons_append, List.nil_append, fieldValues, ih, Option.map_some, half_of_bytes,
      if_true, read _ fits.1 fits.2]

/-- The values of a configuration in range fit their fields. -/
theorem Configuration.values_fit {c : Configuration} (h : c.inRange = true) : FieldsFit fieldShapes c.values := by
  simp only [Configuration.inRange, fieldChecks, Configuration.values, List.getD_cons_zero, List.getD_cons_succ,
    List.all_cons, List.all_nil, Bool.and_eq_true, decide_eq_true_eq] at h
  unfold fieldShapes Configuration.values
  repeat' first
    | exact .nil
    | apply FieldsFit.byte
    | apply FieldsFit.natural
    | apply FieldsFit.signed
  all_goals omega

/-- A configuration is made again from its field values. -/
theorem configurationOf_self (c : Configuration) : configurationOf c.values = c := by
  obtain ⟨_, _, _, _, _, _, _, _, _, _, _, _, _, _, _, _, _, _, _, _, _, _, _, _, _, _, _, _, _, policy, auto, mode⟩ := c
  have ha : decide ((if auto then (1 : Int) else 0) = 1) = auto := by cases auto <;> rfl
  simp only [configurationOf, Configuration.values, List.getD_cons_zero, List.getD_cons_succ, Int.toNat_natCast, ha]
  cases policy <;> cases mode <;> rfl

end Sys2Proof.Machine

namespace Sys2Proof.Proofs

open Sys2Proof.Machine

/-- Settles O3: each value in its range fits its field, and the bytes of a field give it back. -/
theorem configurationRoundTrip : Obligations.ConfigurationRoundTrip := fun c range =>
  ⟨c.length_bytes, fieldValues_fieldBytes (Configuration.values_fit range), firstBadField_eq_none_iff.2 range,
    configurationOf_self c⟩

end Sys2Proof.Proofs
end

section
/-! PROOFS. A request's frame and the request (R188 to R192), and the placing of replies (R193). -/

namespace Sys2Proof.Machine

variable {s t : State} {l : Link}

/-! ## The code and the payload give the request -/

theorem requestOf_of_unlisted {code : Byte} (p : List Byte) (h : code ∉ requestCodes) : requestOf code p = none := by
  have listed (k : Nat) (hk : BitVec.ofNat 8 k ∈ requestCodes) : code.toNat ≠ k := by
    rintro rfl
    rw [ofNat_toNat_self] at hk
    exact h hk
  unfold requestOf
  split
  all_goals first
    | rfl
    | exact absurd ‹code.toNat = _› (listed _ (by decide))

/-- The body of a well-formed request is read as that request. -/
theorem request_read {i : Instr} {code : Byte} {p : List Byte} (body : requestBody i = some (code, p))
    (unlisted : ∀ c q, i = .unknownCommand c q → c ∉ requestCodes) :
    (requestOf code p).getD (.unknownCommand code p) = i := by
  cases i with
  | unknownCommand c q =>
    cases body
    rw [requestOf_of_unlisted _ (unlisted _ _ rfl)]
    rfl
  | _ => cases body; try rfl

theorem payload_length {i : Instr} {code : Byte} {p : List Byte} (body : requestBody i = some (code, p))
    (wf : i.wellFormed = true) : p.length ≤ 199 := by
  have fits : payloadFits p = true := by
    unfold Instr.wellFormed at wf
    rw [body] at wf
    dsimp only at wf
    split at wf
    · exact (Bool.and_eq_true_iff.1 wf).1
    · exact wf
  exact of_decide_eq_true fits

theorem unlisted_of_wellFormed {i : Instr} (wf : i.wellFormed = true) (c : Byte) (q : List Byte)
    (h : i = .unknownCommand c q) : c ∉ requestCodes := by
  subst h
  simpa [Instr.wellFormed, requestBody] using (Bool.and_eq_true_iff.1 wf).2

/-! ## The bytes of a frame -/

/-- The bytes of the receive FIFO that complete frames occupy. -/
def Link.rxFrames (l : Link) : Nat := (l.rx.map RxFrame.used).foldl (· + ·) 0

theorem Link.rxUsed_eq (l : Link) : l.rxUsed = l.rxFrames + l.asm.used := by
  have shift (xs : List Nat) (a : Nat) : xs.foldl (· + ·) a = xs.foldl (· + ·) 0 + a := by
    induction xs generalizing a with
    | nil => simp
    | cons x xs ih => simp only [List.foldl_cons]; rw [ih, ih (0 + x)]; omega
  exact shift _ _

theorem storedCount_map_some (bs : List Byte) : storedCount (bs.map some) = bs.length := by
  induction bs with
  | nil => rfl
  | cons b bs ih => simpa [storedCount] using ih

theorem Link.stored_of_room {b : Byte} (h : l.rxUsed < 256) : l.stored b = some b := if_pos h

/-- The body bytes of a frame arrive with room for them all. -/
theorem Link.body_arrives {n : Nat} (bs got : List Byte) (hn : got.length + bs.length = n) (more : bs ≠ [])
    (room : l.rxFrames + n ≤ 255) :
    bs.foldl (fun l b => l.byteArrives b) { l with asm := .body n (got.map some) } =
      { l with asm := .check n ((got ++ bs).map some) } := by
  induction bs generalizing got with
  | nil => exact absurd rfl more
  | cons b bs ih =>
    have fits : Link.stored { l with asm := .body n (got.map some) } b = some b := by
      refine Link.stored_of_room ?_
      rw [Link.rxUsed_eq]
      simp only [Assembler.used, storedCount_map_some]
      change l.rxFrames + _ < 256
      simp only [List.length_cons] at hn
      omega
    have kept : got.map some ++ [some b] = (got ++ [b]).map some := by simp
    rw [List.foldl_cons]
    simp only [List.length_cons] at hn
    cases bs with
    | nil =>
      have last : ¬got.length + 1 < n := by simp at hn; omega
      simp [Link.byteArrives_eq, fits, last]
    | cons b' bs' =>
      have next : got.length + 1 < n := by simp at hn; omega
      have one : Link.byteArrives b { l with asm := .body n (got.map some) } =
          { l with asm := .body n ((got ++ [b]).map some) } := by
        simp [Link.byteArrives_eq, fits, next]
      rw [one, ih (got ++ [b]) (by simp at hn ⊢; omega) (by simp)]
      simp

/-- The complete frame around a body, no byte of it lost. -/
def wholeFrame (body : List Byte) : RxFrame :=
  { length := body.length, body := body.map some, check := some (checkByte (BitVec.ofNat 8 body.length :: body)) }

/-- A whole frame arrives in HUNTING with room for it. -/
theorem Link.frame_arrives {body : List Byte} (hunting : l.asm = .hunting) (some_ : body ≠ []) (short : body.length ≤ 200)
    (room : l.rxUsed + body.length + 2 ≤ 256) :
    (frameOf body).foldl (fun l b => l.byteArrives b) l = { l with rx := l.rx ++ [wholeFrame body] } := by
  have long : 1 ≤ body.length := List.length_pos_iff.2 some_
  have frames : l.rxFrames + body.length + 2 ≤ 256 := by
    rw [Link.rxUsed_eq, hunting] at room
    exact room
  have count : (BitVec.ofNat 8 body.length).toNat = body.length := by rw [BitVec.toNat_ofNat]; omega
  have marker : l.byteArrives Config.marker = { l with asm := .length } := by simp [Link.byteArrives_eq, hunting]
  have length : Link.byteArrives (BitVec.ofNat 8 body.length) { l with asm := .length } =
      { l with asm := .body body.length ([].map some) } := by
    have used : Link.rxUsed { l with asm := .length } = l.rxFrames := Link.rxUsed_eq _
    rw [Link.byteArrives_eq]
    simp only [count, used]
    exact if_neg (by omega)
  unfold frameOf
  rw [List.foldl_cons, marker, List.foldl_cons, length, List.foldl_append,
    Link.body_arrives body [] (by simp) some_ (by omega), List.nil_append, List.foldl_cons, List.foldl_nil]
  have kept (b : Byte) : Link.stored { l with asm := .check body.length (body.map some) } b = some b := by
    refine Link.stored_of_room ?_
    rw [Link.rxUsed_eq]
    simp only [Assembler.used, storedCount_map_some]
    change l.rxFrames + _ < 256
    omega
  rw [Link.byteArrives_eq]
  simp only [kept, ← hunting]
  rfl

theorem wholeFrame_bytes (body : List Byte) : (wholeFrame body).bytes = body := by
  simp [RxFrame.bytes, wholeFrame, Function.comp_def]

theorem wholeFrame_goodCheck (body : List Byte) : (wholeFrame body).goodCheck = true := by
  have sum := sum_checked (BitVec.ofNat 8 body.length :: body)
  rw [List.cons_append, List.foldl_cons] at sum
  unfold RxFrame.goodCheck
  rw [wholeFrame_bytes]
  simpa [wholeFrame] using sum

theorem wholeFrame_command (code : Byte) (p : List Byte) :
    (wholeFrame (code :: p)).command = (requestOf code p).getD (.unknownCommand code p) := by
  have whole : (wholeFrame (code :: p)).overrun = false := by simp [RxFrame.overrun, wholeFrame]
  unfold RxFrame.command
  rw [whole, wholeFrame_goodCheck, wholeFrame_bytes]
  rfl

end Sys2Proof.Machine

namespace Sys2Proof.Proofs

open Sys2Proof.Machine

/-- Settles O4: the assembler goes from HUNTING through the length and the body to the check byte. -/
theorem requestFrameRoundTrip : Obligations.RequestFrameRoundTrip := by
  intro i code p l body wf hunting room
  have short := payload_length body wf
  refine ⟨_, (wholeFrame_command code p).trans (request_read body (unlisted_of_wellFormed wf)),
    Link.frame_arrives hunting (by simp) (by simp; omega) (by simp; omega)⟩

end Sys2Proof.Proofs
end

section
/-! PROOFS. Replies in the transmit FIFO, and when a request is taken (R190 to R193). -/

namespace Sys2Proof.Machine

variable {s t : State} {l : Link}

/-! ## The length of a reply -/

theorem Payload.length_bytes (p : Payload) : p.bytes.length = p.size := by
  unfold Payload.bytes Payload.size
  cases p.stated <;> simp

theorem length_frameOf (body : List Byte) : (frameOf body).length = body.length + 3 := by simp [frameOf]

theorem Reply.length_bytes (r : Reply) : r.bytes.length = r.size := by
  simp [Reply.bytes, Reply.size, length_frameOf, Payload.length_bytes]

/-! ## The transmit FIFO -/

/-- The bytes of replies. -/
def replyBytes (rs : List Reply) : Nat := (rs.map Reply.size).sum

theorem Link.txUsed_eq (l : Link) : l.txUsed = replyBytes l.tx - l.txSent := by
  rw [Link.txUsed, replyBytes, List.sum_eq_foldl]

/-- The transmitter is within the oldest reply, and before it when none is left. -/
def Link.sendsFirst (l : Link) : Prop :=
  (∀ x xs, l.tx = x :: xs → l.txSent < x.size) ∧ (l.tx = [] → l.txSent = 0)

theorem Link.sendByte_sends (h : l.sendsFirst) : l.sendByte.sendsFirst ∧ l.sendByte.txUsed = l.txUsed - 1 := by
  obtain ⟨within, before⟩ := h
  unfold Link.sendsFirst
  rw [Link.txUsed_eq, Link.txUsed_eq]
  unfold Link.sendByte
  split
  · rename_i none_
    simp [none_, before none_, replyBytes]
  · rename_i x xs first
    have small := within x xs first
    have total : replyBytes l.tx = x.size + replyBytes xs := by simp [first, replyBytes]
    split
    · refine ⟨⟨fun y _ _ => ?_, fun _ => rfl⟩, ?_⟩
      · exact Nat.succ_pos _
      · change replyBytes xs - 0 = _
        omega
    · rename_i unfinished
      refine ⟨⟨fun y ys e => ?_, fun e => ?_⟩, ?_⟩
      · change l.tx = _ at e
        obtain ⟨rfl, -⟩ := List.cons.inj (first.symm.trans e)
        change l.txSent + 1 < _
        omega
      · change l.tx = _ at e
        simp [first] at e
      · change replyBytes l.tx - (l.txSent + 1) = _
        omega

theorem Link.sendBytes_sends (k : Nat) (h : l.sendsFirst) :
    (l.sendBytes k).sendsFirst ∧ (l.sendBytes k).txUsed = l.txUsed - k := by
  induction k generalizing l with
  | zero => exact ⟨h, rfl⟩
  | succ k ih =>
    obtain ⟨sends, used⟩ := Link.sendByte_sends h
    obtain ⟨sends', used'⟩ := ih sends
    refine ⟨sends', used'.trans ?_⟩
    rw [used]
    omega

theorem Link.place_of_room {r : Reply} (room : l.txUsed + r.size ≤ 256) :
    l.place r = { l with tx := l.tx ++ [r], waiting := none } := if_pos room

/-- The bytes sent do not go beyond the replies. -/
theorem Link.sendsFirst.le (h : l.sendsFirst) : l.txSent ≤ replyBytes l.tx := by
  obtain ⟨within, before⟩ := h
  cases htx : l.tx with
  | nil => rw [before htx]; exact Nat.zero_le _
  | cons x xs =>
    have := within x xs htx
    simp only [replyBytes, List.map_cons, List.sum_cons]
    omega

/-- The waiting reply is placed last, once the bytes in front of it that leave no room have been sent. -/
theorem Link.placeWaiting_places {r : Reply} (waits : l.waiting = some r) (short : r.size ≤ 256) (h : l.sendsFirst) :
    l.placeWaiting.waiting = none ∧ l.placeWaiting.tx.getLast? = some r ∧ l.placeWaiting.txUsed ≤ 256 := by
  obtain ⟨sends, used⟩ := Link.sendBytes_sends (l.txUsed + r.size - 256) h
  have room : (l.sendBytes (l.txUsed + r.size - 256)).txUsed + r.size ≤ 256 := by omega
  have placed : l.placeWaiting = (l.sendBytes (l.txUsed + r.size - 256)).place r := by
    unfold Link.placeWaiting
    rw [waits]
    rfl
  rw [placed, Link.place_of_room room]
  refine ⟨rfl, by simp, ?_⟩
  rw [Link.txUsed_eq] at room ⊢
  have := sends.le
  simp only [replyBytes, List.map_append, List.sum_append, List.map_cons, List.map_nil, List.sum_cons, List.sum_nil] at *
  omega

/-! ## A request is taken, or its frame waits -/

theorem Link.ready_iff : l.ready = true ↔ l.waiting = none ∧ l.readBack = none ∧ l.resetting = false := by
  simp [Link.ready, and_assoc]

/-- A request, and a flawed frame, has one work, which it does when it is taken. -/
theorem exec_takes {c : Instr} (named : (∃ code p, requestBody c = some (code, p)) ∨ ∃ flaw, c = .badFrame flaw)
    (unlisted : ∀ code p, c = .unknownCommand code p → code ∉ requestCodes) :
    ∃ act, ∀ s, exec c s = .next (s.takeFrame c act) := by
  rcases named with ⟨code, p, body⟩ | ⟨flaw, rfl⟩
  · cases c with
    | unknownCommand c q => exact ⟨_, fun s => exec_unknownCommand q (unlisted _ _ rfl)⟩
    | _ => first
      | exact ⟨_, fun _ => rfl⟩
      | cases body
  · exact ⟨_, fun _ => rfl⟩

theorem State.takeFrame_of_oldest {c : Instr} {act : State → State} {f : RxFrame} {rest : List RxFrame}
    (ready : s.link.ready = true) (oldest : s.link.rx = f :: rest) (this : f.command = c) :
    s.takeFrame c act = act { s with link := { s.link with rx := rest } } := by
  simp [State.takeFrame, ready, oldest, this]

/-- The frame waits while the link interface is not ready, or behind an older frame. -/
theorem State.takeFrame_of_waiting {c : Instr} {act : State → State}
    (waits : s.link.ready = false ∨ ∃ f rest, s.link.rx = f :: rest ∧ f.command ≠ c) :
    s.takeFrame c act = s.frameArrives c := by
  rcases waits with h | ⟨f, rest, oldest, other⟩
  · simp [State.takeFrame, h]
  · simp [State.takeFrame, oldest, other]

end Sys2Proof.Machine

namespace Sys2Proof.Proofs

open Sys2Proof.Machine

/-- Settles O8: the transmitter's bytes make room for the waiting reply, and a frame is taken by its place in the
receive FIFO. -/
theorem repliesPlaced : Obligations.RepliesPlaced := by
  refine ⟨Reply.length_bytes, fun _ _ => rfl, fun r s waits short within before => ?placed, fun c bytes named => ?taken⟩
  case placed =>
    exact ⟨_, rfl, rfl, Link.placeWaiting_places waits short ⟨within, before⟩⟩
  case taken =>
    have arrives (s : State) : s.frameArrives c =
        { s with link := bytes.foldl (fun l b => l.byteArrives b) s.link } := by
      rcases named with ⟨code, p, body, rfl, -⟩ | ⟨flaw, rfl, rfl⟩
      · simp only [State.frameArrives, body]
      · rfl
    obtain ⟨act, takes⟩ := exec_takes (c := c)
      (named.imp (fun ⟨code, p, body, _⟩ => ⟨code, p, body⟩) fun ⟨flaw, e, _⟩ => ⟨flaw, e⟩)
      (fun code p e => by
        rcases named with ⟨_, _, _, _, unlisted⟩ | ⟨flaw, e', -⟩
        · exact unlisted code p e
        · simp [e'] at e)
    refine ⟨act, fun s => ⟨Link.ready_iff, fun ready empty => ?_, fun f rest ready oldest this => ⟨?_, ?_⟩, fun waits => ?_⟩⟩
    · rw [takes, State.takeFrame_served c act s ⟨ready, empty⟩]
    · rw [takes, State.takeFrame_of_oldest ready oldest this]
    · rintro rfl
      rw [takes, takes, State.takeFrame_of_oldest ready oldest this]
      refine congrArg Host.Outcome.next (Eq.symm ?_)
      refine State.takeFrame_served c act _ ?_
      exact ⟨ready, rfl⟩
    · rw [takes, State.takeFrame_of_waiting waits, arrives]

end Sys2Proof.Proofs
end

section
/-! PROOFS. Refusals in their order (R1), CONFIGURE (R198, R199) and the resets (R201, R202). -/

namespace Sys2Proof.Machine

variable {s t : State} {code : Byte} {act : State → State} {st : Status}

/-! ## The first check that fails -/

/-- The model's checks say, one for one, what a statement's checks say; the later of them are only made when the
earlier hold. -/
inductive SameChecks : List (Prop × Status) → List (Bool × Status) → Prop
  | nil : SameChecks [] []
  | guarded {p : Prop} {b : Bool} {st : Status} {props : List (Prop × Status)} {checks : List (Bool × Status)}
      (same : b = true ↔ p) (rest : p → SameChecks props checks) : SameChecks ((p, st) :: props) ((b, st) :: checks)

theorem SameChecks.cons {p : Prop} {b : Bool} {st : Status} {props : List (Prop × Status)} {checks : List (Bool × Status)}
    (same : b = true ↔ p) (rest : SameChecks props checks) : SameChecks ((p, st) :: props) ((b, st) :: checks) :=
  .guarded same fun _ => rest

theorem not_refusesWith_nil : ¬refusesWith [] st := by
  rintro ⟨before, c, after, eq, -⟩
  cases before <;> cases eq

theorem refusesWith_cons {p : Prop} {x : Status} {rest : List (Prop × Status)} :
    refusesWith ((p, x) :: rest) st ↔ ¬p ∧ x = st ∨ p ∧ refusesWith rest st := by
  constructor
  · rintro ⟨before, c, after, eq, passed, fails⟩
    cases before with
    | nil =>
      obtain ⟨head, -⟩ := List.cons.inj eq
      cases head
      exact .inl ⟨fails, rfl⟩
    | cons y ys =>
      obtain ⟨rfl, tail⟩ := List.cons.inj eq
      exact .inr ⟨passed _ List.mem_cons_self, ys, c, after, tail, fun z hz => passed z (List.mem_cons_of_mem _ hz), fails⟩
  · rintro (⟨fails, rfl⟩ | ⟨holds, before, c, after, rfl, passed, fails⟩)
    · exact ⟨[], p, rest, rfl, nofun, fails⟩
    · refine ⟨(p, x) :: before, c, after, rfl, fun z hz => ?_, fails⟩
      rcases List.mem_cons.1 hz with rfl | hz
      · exact holds
      · exact passed z hz

theorem SameChecks.firstRefusal {props : List (Prop × Status)} {checks : List (Bool × Status)}
    (same : SameChecks props checks) (refuses : refusesWith props st) : firstRefusal checks = some st := by
  induction same with
  | nil => exact absurd refuses not_refusesWith_nil
  | @guarded p b x props checks iff _ ih =>
    rcases refusesWith_cons.1 refuses with ⟨fails, rfl⟩ | ⟨holds, rest⟩
    · cases b
      · rfl
      · exact absurd (iff.1 rfl) fails
    · rw [iff.2 holds]
      exact ih holds rest

/-- The first of a request's checks that fails gives its refusal. -/
theorem State.checked_refusesWith {props : List (Prop × Status)} {checks : List (Bool × Status)}
    (same : SameChecks props checks) (refuses : refusesWith props st) :
    s.checked code checks act = s.reply code st .empty :=
  State.checked_refused code checks act s st (same.firstRefusal refuses)

theorem noRun_iff : (!s.runExists) = true ↔ s.run.state = .idle := by simp [State.runExists]

theorem haltLine_iff : (!s.haltLine) = true ↔ s.haltLine = false := by simp

/-! ## CONFIGURE -/

theorem State.configure_same (s : State) : SameChecks
    [(s.run.state = .idle, .wrongState), (s.load = none, .loadActive),
     (s.frame.state.isMoving = false ∧ s.frame.state.isHoming = false ∧ s.carriage.state = .idle ∧
        s.shaft.state = .still, .wrongState)] s.configureChecks :=
  .cons noRun_iff (.cons (by simp) (.cons (by simp [and_assoc]) .nil))

theorem exec_configure_served {p : List Byte} {v : List Int} (hs : s.served) (read : fieldValues fieldShapes p = some v) :
    exec (.configure p) s = .next (s.checked 0x06 s.configureChecks (State.configureFields v)) := by
  refine (exec_of_served (act := performConfigure p) hs rfl).trans ?_
  simp only [performConfigure, read]

theorem exec_configure_passed {p : List Byte} {v : List Int} (hs : s.served) (read : fieldValues fieldShapes p = some v)
    (idle : s.run.state = .idle) (closed : s.load = none)
    (still : s.frame.state.isMoving = false ∧ s.frame.state.isHoming = false ∧ s.carriage.state = .idle ∧
      s.shaft.state = .still) :
    exec (.configure p) s = .next (s.configureFields v) := by
  obtain ⟨moving, homing, carriage, shaft⟩ := still
  refine (exec_configure_served hs read).trans (congrArg Host.Outcome.next (State.checked_passed _ _ _ _ ?_))
  simp [State.configureChecks, State.runExists, firstRefusal, idle, closed, moving, homing, carriage, shaft]

theorem FrameUnit.refield_cases (cfg : Configuration) (f : FrameUnit) :
    f.refield cfg = f ∨ f.refield cfg = { f with state := .unknown } := by
  unfold FrameUnit.refield
  repeat' split
  all_goals simp

/-- The frame position is lost outside the new field alone (R75). -/
theorem FrameUnit.refield_unknown_iff (cfg : Configuration) (f : FrameUnit) :
    (f.refield cfg).state = .unknown ↔ f.state = .unknown ∨ ∃ q, f.state = .known q ∧ cfg.inField q = false := by
  unfold FrameUnit.refield
  cases hf : f.state with
  | known p =>
    cases fits : cfg.inField p <;> simp [hf, fits]
  | _ => simp [hf]

theorem headMask_getLsbD (cfg : Configuration) {i : Nat} (hi : i < 16) :
    cfg.headMask.getLsbD i = decide (i < cfg.headsInstalled) := by
  rw [Configuration.headMask, BitVec.getLsbD_ofNat, Nat.testBit_two_pow_sub_one]
  simp [hi]

/-! ## The resets -/

theorem Memory.read_write_ne {m : List Host.Cell} {k j : Nat} (v : Byte) (h : j ≠ k) :
    Memory.read (Memory.write m k v) j = Memory.read m j := by
  induction m with
  | nil =>
    unfold Memory.write
    split
    · rfl
    · exact if_neg h.symm
  | cons c m ih =>
    obtain ⟨a, w⟩ := c
    unfold Memory.write
    repeat' split
    · rfl
    · exact if_neg h.symm
    · rename_i at_ _
      exact (if_neg (at_ ▸ h.symm)).symm
    · rename_i at_ _
      rw [Memory.read, Memory.read, if_neg h.symm, if_neg (at_ ▸ h.symm)]
    · rw [Memory.read, Memory.read, ih]

theorem Memory.read_writeBytes_outside {m : List Host.Cell} {k j : Nat} {vs : List Byte}
    (h : j < k ∨ k + vs.length ≤ j) : Memory.read (Memory.writeBytes m k vs) j = Memory.read m j := by
  induction vs generalizing m k with
  | nil => rfl
  | cons v vs ih =>
    simp only [List.length_cons] at h
    rw [Memory.writeBytes, ih (by omega), Memory.read_write_ne v (by omega)]

/-- An abandoned burst leaves every byte outside its places (log 8). -/
theorem Memory.read_scramblePlaces_outside {m : List Host.Cell} {free base first count a : Nat}
    (h : ∀ i, i < count → a < 4 * (64 * base + first + i) ∨ 4 * (64 * base + first + i) + 4 ≤ a) :
    Memory.read (scramblePlaces m free base first count) a = Memory.read m a := by
  induction count generalizing m free first with
  | zero => rfl
  | succ n ih =>
    rw [scramblePlaces, ih fun i hi => ?rest, Memory.read_writeBytes_outside]
    · have := h 0 (Nat.succ_pos n)
      rw [placeOf_eq]
      simpa using this
    case rest =>
      have := h (i + 1) (Nat.succ_lt_succ hi)
      omega

theorem State.storeAfterPin_of_not_loader (h : ∀ b, s.burst = some b → b.claimant ≠ .loader) :
    s.storeAfterPin.1 = s.store := by
  unfold State.storeAfterPin
  cases hb : s.burst with
  | none => rfl
  | some b =>
    have := h b hb
    cases hc : b.claimant <;> simp_all

theorem State.storeAfterPin_of_loader {b : Burst} (hb : s.burst = some b) (loader : b.claimant = .loader) :
    s.storeAfterPin.1 = scramblePlaces s.store s.free b.base b.first b.count := by
  simp [State.storeAfterPin, hb, loader]

theorem FrameUnit.linkReset_cases (f : FrameUnit) :
    f.linkReset.state.isMoving = false ∧ f.linkReset.state.isHoming = false ∧
    (f.state.isHoming = true → f.linkReset.state = .unknown ∧ f.linkReset.homing = .interrupted) ∧
    ∀ m, f.state = .moving m → f.linkReset.state = .known m.position ∧ f.linkReset.followOn = none := by
  unfold FrameUnit.linkReset FrameUnit.halt
  cases hf : f.state <;> simp [hf, FrameState.isMoving, FrameState.isHoming]

theorem HeadRecord.endRun_state (r : HeadRecord) : r.endRun.state = if r.state = .off then .off else .idle := by
  unfold HeadRecord.endRun
  cases hr : r.state <;> simp

/-- Switching the latches off at rest changes the heads alone, and nothing of a head but its latch (R136). -/
theorem State.latchesOffAtRest_eq (s : State) : s.latchesOffAtRest = { s with heads := s.latchesOffAtRest.heads } := by
  unfold State.latchesOffAtRest
  split <;> rfl

theorem State.latchesOffAtRest_head (s : State) (h : Head) :
    ∃ latch, s.latchesOffAtRest.heads.get h = { s.heads.get h with latch := latch } := by
  unfold State.latchesOffAtRest
  split
  · exact ⟨false, by simp [State.latchesOff]⟩
  · exact ⟨(s.heads.get h).latch, rfl⟩

end Sys2Proof.Machine

namespace Sys2Proof.Proofs

open Sys2Proof.Machine

/-- Settles O11: the checks in their order, then the field tests, then the record in force with its effects. -/
theorem configureRule : Obligations.ConfigureRule := by
  intro s p v hs read still
  refine ⟨fun st refuses => ?_, fun idle closed still i bad => ?_, fun idle closed still good => ?_⟩
  · rw [exec_configure_served hs read, State.checked_refusesWith s.configure_same refuses]
  · rw [exec_configure_passed hs read idle closed still]
    simp only [State.configureFields, bad]
  · intro cfg
    refine ⟨(s.configure cfg).reply 0x06 .ok .empty, ?_, rfl, FrameUnit.refield_cases cfg s.frame,
      FrameUnit.refield_unknown_iff cfg s.frame, fun n => ?_, fun n => ?_, fun h => ?_, fun i hi => ?_⟩
    · rw [exec_configure_passed hs read idle closed still]
      simp only [State.configureFields, good, cfg]
    · change s.run.needle.filter cfg.installed = some n ↔ _
      simp [Option.filter_eq_some_iff, Configuration.installed]
    · change ((s.needles.map (NeedleEntry.reclamp cfg)).get n).perHead = _ ∧
        ((s.needles.map (NeedleEntry.reclamp cfg)).get n).thread = _
      rw [Table.get_map]
      exact ⟨rfl, rfl⟩
    · exact Table.get_mapIdx ..
    · change (s.enable &&& cfg.headMask).getLsbD i = _
      rw [BitVec.getLsbD_and, headMask_getLsbD cfg hi]

/-- Settles O12: each block's reset value, the latches alone being left to the rest of the shaft. -/
theorem linkResetResult : Obligations.LinkResetResult := by
  refine ⟨fun s hs => ⟨_, exec_of_served (act := performReset []) hs rfl, rfl, ?_⟩,
    fun s => ⟨_, congrArg Host.Outcome.next (State.latchesOffAtRest_eq _), ?_⟩⟩
  · change (_ && !true) = false
    simp
  · obtain ⟨moving, homing, interrupted, stops⟩ := s.frame.linkReset_cases
    have designs (d : Design) : (s.designs.map Descriptor.linkReset).get d = (s.designs.get d).linkReset :=
      Table.get_map ..
    refine ⟨rfl, rfl, rfl, rfl, rfl, rfl, fun d => (designs d).trans rfl, rfl, rfl, rfl, rfl, rfl, rfl, moving, homing, rfl, rfl,
      interrupted, stops, rfl, rfl, rfl, rfl, rfl, rfl, rfl, rfl, rfl, rfl, rfl, rfl, fun h => ?_, rfl, rfl, rfl⟩
    have ended (r off : HeadRecord) (hr : ∃ latch, r = { off with latch := latch }) (hoff : off = (s.heads.get h).endRun) :
        r.state = (if (s.heads.get h).state = .off then .off else .idle) ∧ r.balance = 0 ∧ r.grace = 0 ∧
          r.looseQuiet = none ∧ r.meter = (s.heads.get h).meter ∧ r.trimmer = false := by
      obtain ⟨latch, rfl⟩ := hr
      subst hoff
      exact ⟨HeadRecord.endRun_state _, rfl, rfl, rfl, rfl, rfl⟩
    exact ended _ _ (State.latchesOffAtRest_head _ h) (Table.get_map ..)

/-- Settles O13: the cold values are the model's own, and the pin's scrambled places are those of the burst. -/
theorem coldResetResult : Obligations.ColdResetResult := by
  intro s cold
  refine ⟨rfl, s.storeAfterPin.1, s.storeAfterPin.2, rfl, State.storeAfterPin_of_not_loader, fun b hb loader a outside => ?_⟩
  rw [State.storeAfterPin_of_loader hb loader]
  exact Memory.read_scramblePlaces_outside outside

/-- Settles O14: the reset state has the values of the reset tables. -/
theorem resetStateValues : Obligations.ResetStateValues := by
  refine ⟨rfl, fun _ => Table.get_fill .., rfl, rfl, rfl, rfl, rfl, rfl, rfl, rfl, rfl, rfl, rfl, rfl, rfl, rfl, rfl, rfl, rfl, rfl, rfl, rfl, rfl,
    fun n => ?_, rfl, rfl, fun _ => Table.get_fill .., rfl, rfl, rfl, rfl, rfl, rfl, rfl, rfl, rfl, rfl, rfl, rfl, rfl, rfl, rfl, rfl, rfl, rfl, rfl, rfl, rfl⟩
  have entry : State.reset.needles.get n = { thread := none, perHead := .fill .ready } := Table.get_fill ..
  refine ⟨congrArg NeedleEntry.thread entry, fun h => ?_⟩
  rw [entry]
  exact Table.get_fill ..

end Sys2Proof.Proofs
end

section
/-! PROOFS. The loader and the reports on designs (chapters 1 and 2). -/

namespace Sys2Proof.Machine

variable {s t : State} {d : Design} {b : Byte} {c : LoadContext} {x : DesignBody} {cursor : Nat}

/-! ## Checks that all pass -/

theorem SameChecks.passed {props : List (Prop × Status)} {checks : List (Bool × Status)}
    (same : SameChecks props checks) (holds : ∀ x ∈ props, x.1) : Machine.firstRefusal checks = none := by
  induction same with
  | nil => rfl
  | @guarded p b x props checks iff _ ih =>
    have first := holds _ List.mem_cons_self
    rw [iff.2 first]
    exact ih first fun y hy => holds y (List.mem_cons_of_mem _ hy)

theorem State.checked_holds {code : Byte} {act : State → State} {props : List (Prop × Status)}
    {checks : List (Bool × Status)} (same : SameChecks props checks) (holds : ∀ x ∈ props, x.1) :
    s.checked code checks act = act s := State.checked_passed code checks act s (same.passed holds)

/-! ## LOAD_OPEN (R23, R24) -/

theorem Table.any_items {n : Nat} {α : Type} {t : Table n α} {p : α → Bool} : t.items.any p = true ↔ ∃ i, p (t.get i) = true := by
  rw [List.any_eq_true]
  constructor
  · rintro ⟨a, ha, hp⟩
    obtain ⟨i, hi, rfl⟩ := List.getElem_of_mem ha
    exact ⟨⟨i, t.size ▸ hi⟩, hp⟩
  · rintro ⟨i, hp⟩
    exact ⟨_, List.getElem_mem _, hp⟩

theorem Descriptor.meets_eq_true {base blocks : Nat} {y : Descriptor} : y.meets base blocks = true ↔
    ∃ x, y.body? = some x ∧ base < x.base + (x.length + 63) / 64 ∧ x.base < base + blocks := by
  unfold Descriptor.meets
  cases y.body? with
  | none => simp
  | some x =>
    simp only [Option.some.injEq, exists_eq_left']
    exact decide_eq_true_iff

/-- No region that is in use overlaps a run of blocks. -/
theorem State.no_overlap_iff {base blocks : Nat} : (!s.designs.items.any (Descriptor.meets base blocks)) = true ↔
    ∀ e x, (s.designs.get e).body? = some x → base + blocks ≤ x.base ∨ x.base + (x.length + 63) / 64 ≤ base := by
  rw [Bool.not_eq_true', ← Bool.not_eq_true, Table.any_items]
  simp only [Descriptor.meets_eq_true, not_exists, not_and]
  constructor
  · intro h e x body
    have := h e x body
    omega
  · intro h e x body low
    have := h e x body
    omega

theorem State.loadOpen_same (s : State) (d : Design) (base length : Nat) (attrs : Option Attributes) : SameChecks
    [(s.load = none, .loadActive), (base < 8192, .badArgument), (1 ≤ length ∧ length ≤ 262144, .badArgument),
     (base + (length + 63) / 64 ≤ 8192, .badArgument), (attrs ≠ none, .badArgument), (s.designs.get d = .empty, .inUse),
     (∀ e x, (s.designs.get e).body? = some x →
        base + (length + 63) / 64 ≤ x.base ∨ x.base + (x.length + 63) / 64 ≤ base, .overlap)]
    (s.loadOpenChecks d base length attrs) :=
  .cons (by simp) <| .cons decide_eq_true_iff <| .cons decide_eq_true_iff <| .cons decide_eq_true_iff <|
    .cons (by simp [Option.isSome_iff_ne_none]) <| .cons decide_eq_true_iff <| .cons State.no_overlap_iff .nil

theorem exec_loadOpen_served (hs : s.served) (hd : designOf b = some d) (b0 b1 l0 l1 l2 l3 a : Byte) :
    exec (.loadOpen [b, b0, b1, l0, l1, l2, l3, a]) s =
      .next (s.loadOpenFor d (half b0 b1).toNat (word l0 l1 l2 l3).toNat a) := by
  refine (exec_of_served (act := performLoadOpen [b, b0, b1, l0, l1, l2, l3, a]) hs rfl).trans ?_
  simp only [performLoadOpen, hd]

/-! ## LOAD_DATA (R25 to R28) -/

theorem word_wordBytes (w : Word) :
    word (w.extractLsb' 0 8) (w.extractLsb' 8 8) (w.extractLsb' 16 8) (w.extractLsb' 24 8) = w := by
  unfold word
  ext i hi
  grind

theorem wordsOf_wordBytes (ws : List Word) : wordsOf (ws.flatMap wordBytes) = some ws := by
  induction ws with
  | nil => rfl
  | cons w ws ih =>
    rw [List.flatMap_cons]
    simp only [wordBytes, List.cons_append, List.nil_append, wordsOf] at ih ⊢
    rw [ih, word_wordBytes]
    rfl

theorem exec_loadData_served (hs : s.served) (hd : designOf b = some d) {n : Byte} {ws : List Word} (hn : n.toNat = ws.length)
    (i0 i1 i2 i3 : Byte) :
    exec (.loadData (b :: i0 :: i1 :: i2 :: i3 :: n :: ws.flatMap wordBytes)) s =
      .next (s.loadDataFor d (word i0 i1 i2 i3).toNat ws) := by
  refine (exec_of_served (act := performLoadData _) hs rfl).trans ?_
  simp only [performLoadData, wordsOf_wordBytes, hn, hd]
  simp

theorem State.openFor_of_load (open_ : s.load = some c) (this : c.design = d) (loading : s.designs.get d = .loading x cursor) :
    s.openFor d = some (c, x, cursor) := by
  simp [State.openFor, open_, this, loading]

theorem LoadContext.stage_eq (first : Nat) (ws : List Word) (position : Option Point) (c : LoadContext) :
    { c.stage first ws with position := position } =
      if c.buffer0 = none then
        { c with buffer0 := some { first := first, records := ws, written := 0 }, olderIs1 := c.buffer1.isSome, position := position }
      else { c with buffer1 := some { first := first, records := ws, written := 0 }, olderIs1 := false, position := position } := by
  unfold LoadContext.stage
  cases c.buffer0 <;> rfl

/-! ## The tally (R29 to R32) -/

theorem Tally.move_sum (p : Point) (t : Tally) : (t.move p).body.sum = t.body.sum := by
  unfold Tally.move
  repeat' split
  · rfl
  · dsimp only; split <;> rfl

theorem Tally.call_sum (y : Descriptor) (reps : Nat) (t : Tally) : (t.call y reps).body.sum = t.body.sum := by
  unfold Tally.call
  repeat' split
  · rfl
  · rfl
  · dsimp only; split <;> rfl

theorem Tally.colour_sum (code : Half) (t : Tally) : (t.colour code).body.sum = t.body.sum := by
  unfold Tally.colour
  dsimp only
  split <;> rfl

theorem Tally.accept_sum (ds : Table 32 Descriptor) (w : Word) (t : Tally) :
    (t.accept ds w).body.sum = addToSum t.body.sum w := by
  unfold Tally.accept
  dsimp only
  split
  · rfl
  · unfold Tally.record
    split
    · exact Tally.move_sum ..
    · exact Tally.move_sum ..
    · exact Tally.colour_sum ..
    · exact Tally.call_sum ..
    all_goals rfl

theorem Tally.acceptAll_sum (ds : Table 32 Descriptor) (ws : List Word) (t : Tally) :
    (t.acceptAll ds ws).body.sum =
      (ws.map fun w => w.extractLsb' 16 16 + w.extractLsb' 0 16).foldl (· + ·) t.body.sum := by
  induction ws generalizing t with
  | nil => rfl
  | cons w ws ih =>
    rw [List.map_cons, List.foldl_cons, ← add_assoc]
    change (Tally.acceptAll ds ws (t.accept ds w)).body.sum = _
    rw [ih, Tally.accept_sum]
    rfl

theorem Tally.acceptAll_cons {ds : Table 32 Descriptor} {w : Word} {r : Record} (h : decodeRecord w = some r) (ws : List Word)
    (t : Tally) : Tally.acceptAll ds (w :: ws) t = Tally.acceptAll ds ws (Tally.record ds r
      { t with body := { t.body with sum := t.body.sum + w.extractLsb' 16 16 + w.extractLsb' 0 16 } }) := by
  change Tally.acceptAll ds ws (t.accept ds w) = _
  unfold Tally.accept
  rw [h]
  rfl

theorem Descriptor.motif?_ready (y : DesignBody) (net : Option Point) :
    (Descriptor.ready y net).motif? = if y.complete then net.map fun n => (y.extent, n) else none := by
  unfold Descriptor.motif?
  cases net <;> cases hc : y.complete <;> simp [hc]

/-- The bounds of a CALL's boxes, and the position behind it, fit when every coordinate of theirs does (R31). -/
theorem boxes_fit_iff (f l : Box) (q : Point) : (f.fits32 && l.fits32 && q.fits32) = true ↔
    ∀ c ∈ [f.xMin, f.xMax, f.yMin, f.yMax, l.xMin, l.xMax, l.yMin, l.yMax, q.x, q.y],
      -2147483648 ≤ c ∧ c ≤ 2147483647 := by
  simp only [Box.fits32, Point.fits32, Bool.and_eq_true, decide_eq_true_eq, List.forall_mem_cons, List.not_mem_nil,
    false_implies, implies_true, and_true]
  simp only [Config.int32Min, Config.int32Max]
  constructor <;> intro h <;> simp only [h, and_self]

/-! ## The end of a load (R33 to R36) -/

theorem exec_loadClose_served (hs : s.served) (hd : designOf b = some d) (s0 s1 : Byte) :
    exec (.loadClose [b, s0, s1]) s = .next (s.loadCloseFor d (half s0 s1)) := by
  refine (exec_of_served (act := performLoadClose [b, s0, s1]) hs rfl).trans ?_
  simp only [performLoadClose, hd]

theorem exec_loadCancel_served (hs : s.served) (hd : designOf b = some d) :
    exec (.loadCancel [b]) s = .next (s.loadCancelFor d) :=
  (exec_of_served (act := performLoadCancel [b]) hs rfl).trans
    (congrArg Host.Outcome.next (State.oneDesign_of_designOf hd))

theorem LoadContext.anyHolding_iff : c.anyHolding = true ↔ c.buffer0 ≠ none ∨ c.buffer1 ≠ none := by
  simp [LoadContext.anyHolding, Option.isSome_iff_ne_none]

/-! ## READ_RECORDS (R37, R38) -/

theorem State.readRecords_same (s : State) (d : Design) (index count : Nat) : SameChecks
    [(s.designs.get d ≠ .empty, .notFound), (∀ x c, s.designs.get d ≠ .loading x c, .loadActive),
     (1 ≤ count ∧ count ≤ 32, .badArgument), (index < s.len d, .badArgument)]
    (s.readyChecks d ++ [(decide (1 ≤ count ∧ count ≤ 32), .badArgument), (decide (index < s.len d), .badArgument)]) :=
  .cons decide_eq_true_iff <| .cons (by cases s.designs.get d <;> simp [Descriptor.isLoading]) <|
    .cons decide_eq_true_iff <| .cons decide_eq_true_iff .nil

theorem exec_readRecords_served (hs : s.served) (hd : designOf b = some d) (i0 i1 i2 i3 n : Byte) :
    exec (.readRecords [b, i0, i1, i2, i3, n]) s = .next (s.readRecordsFor d (word i0 i1 i2 i3).toNat n.toNat) := by
  refine (exec_of_served (act := performReadRecords [b, i0, i1, i2, i3, n]) hs rfl).trans ?_
  simp only [performReadRecords, hd]

theorem State.len_of_ready {net : Option Point} (h : s.designs.get d = .ready x net) : s.len d = x.length := by
  simp [State.len, h, Descriptor.length, Descriptor.body?]

end Sys2Proof.Machine

namespace Sys2Proof.Proofs

open Sys2Proof.Machine

/-- Settles O15: every check of R23 passes, and the descriptor and the context get their first values. -/
theorem loadOpenAccepted : Obligations.LoadOpenAccepted := by
  intro s d b a b0 b1 l0 l1 l2 l3 attrs base length hs hd closed low least most end_ legal empty apart
  rw [exec_loadOpen_served hs hd]
  unfold State.loadOpenFor
  rw [State.checked_holds (s.loadOpen_same d base length (attributesOf a))]
  · simp only [legal]
    rfl
  · simpa [legal] using ⟨closed, low, ⟨least, most⟩, end_, empty, apart⟩

/-- Settles O16: the chunk passes the tests of R25 and R26, and a buffer is FREE. -/
theorem loadDataAccepted : Obligations.LoadDataAccepted := by
  intro s d b n i0 i1 i2 i3 ws c x cursor hs hd open_ this loading count least most first room legal free tally chunk
  refine ⟨_, exec_loadData_served hs hd count i0 i1 i2 i3, ?_⟩
  have hasFree : c.hasFree = true := by simpa [LoadContext.hasFree] using free
  unfold State.upToGrant State.loadDataFor
  rw [State.openFor_of_load open_ this loading]
  dsimp only [State.offerChunk]
  rw [first, if_neg (not_not.2 ⟨least, most⟩), if_neg (not_not.2 rfl), if_neg (Nat.not_lt.2 room), legal]
  simp only [hasFree, if_true, State.acceptChunk, LoadContext.stage_eq]
  rfl

/-- Settles O17: each record's work on the tally, and the sum that it leaves alone. -/
theorem loaderTally : Obligations.LoaderTally := by
  refine ⟨Tally.acceptAll_sum, fun ds w ws t => ?records, fun p q t at_ => ?moves, fun p y net reps t at_ => ?calls,
    fun p reps t at_ => ?absent, fun p y reps t at_ => ?untracked, fun code t => ?colours⟩
  case records =>
    refine ⟨fun dx dy h => ?_, fun motif reps h => Tally.acceptAll_cons h ws t, fun code h => Tally.acceptAll_cons h ws t,
      fun h => ?_⟩
    · rcases h with h | h <;> exact Tally.acceptAll_cons h ws t
    · rcases h with h | h | h <;> exact Tally.acceptAll_cons h ws t
  case moves =>
    refine ⟨fun fits => ?_, fun out => ?_⟩
    · have moved : t.move p =
          { body := { t.body with extent := t.body.extent.union (q.add p).box }, position := some (q.add p) } := by
        simp only [Tally.move, at_]
        exact if_pos fits
      rw [moved]
      exact ⟨rfl, rfl, rfl⟩
    · have lost : t.move p = t.untrack := by
        simp only [Tally.move, at_]
        exact if_neg (by rw [Point.add, out]; simp)
      rw [lost]
      exact ⟨rfl, rfl, rfl⟩
  case calls =>
    intro v untracked
    have unaccounted (h : (Descriptor.ready y net).motif? = none) : untracked := by
      have lost : v = t.untrack := by simp only [v, Tally.call, at_, h]
      simp only [untracked, lost]
      exact ⟨rfl, rfl⟩
    refine ⟨fun h => unaccounted ?_, fun n complete known => ?_⟩
    · rw [Descriptor.motif?_ready]
      rcases h with h | h <;> simp [h]
    · intro e last r fits
      have motif : (Descriptor.ready y net).motif? = some (e, n) := by
        rw [Descriptor.motif?_ready, complete, known]; rfl
      have called := boxes_fit_iff (e.place p) (e.place (p.add (n.scale (reps - 1)))) (p.add (n.scale reps))
      refine ⟨fun out => ?_, fun inside => ?_⟩
      · have lost : v = t.untrack := by
          simp only [v, Tally.call, at_, motif]
          exact if_neg fun h => out (called.1 h)
        simp only [untracked, lost]
        exact ⟨rfl, rfl⟩
      · have accounted := called.2 inside
        simp only [v, Tally.call, at_, motif, accounted, if_true]
        exact ⟨rfl, rfl⟩
  case absent => simp [Tally.call, at_, Descriptor.motif?, Tally.untrack]
  case untracked => simp [Tally.move, Tally.call, at_]
  case colours =>
    refine ⟨fun h => ?_, fun h => ?_⟩
    · simp [Tally.colour, h]
    · simp [Tally.colour, Nat.not_lt.2 h]

/-- Settles O18: the load is held open by a HOLDING buffer, and ends READY or EMPTY. -/
theorem loadEnds : Obligations.LoadEnds := by
  intro s d b s0 s1 c x cursor hs hd open_ this loading ended
  have context := State.openFor_of_load open_ this loading
  have closes : exec (.loadClose [b, s0, s1]) s = .next (s.closeLoad d c x cursor (half s0 s1)) := by
    rw [exec_loadClose_served hs hd, State.loadCloseFor, context]
  have holding := LoadContext.anyHolding_iff (c := c)
  refine ⟨fun e0 e1 full sum => ?_, fun e0 e1 differs => ?_, fun busy => ?_, ?_⟩
  · have none_ : c.anyHolding = false := by simp [LoadContext.anyHolding, e0, e1]
    rw [closes, State.closeLoad, none_, if_neg Bool.false_ne_true, if_pos ⟨full, sum⟩]
    rfl
  · have none_ : c.anyHolding = false := by simp [LoadContext.anyHolding, e0, e1]
    rw [closes, State.closeLoad, none_, if_neg Bool.false_ne_true, if_neg (by rintro ⟨h1, h2⟩; simp [h1, h2] at differs)]
    rfl
  · rw [closes, State.closeLoad, if_pos (holding.2 busy)]
    rfl
  · rw [exec_loadCancel_served hs hd, State.loadCancelFor, context]
    rfl

/-- Settles O19: the read-back is started with its count clamped, and the reports are read off the descriptors. -/
theorem designReports : Obligations.DesignReports := by
  refine ⟨fun s d b i0 i1 i2 i3 n x net => ?_, fun s hs => ⟨fun b d hd => ?_, ?_⟩⟩
  · intro index hs hd ready least most inside read
    refine ⟨_, exec_readRecords_served hs hd i0 i1 i2 i3 n, ?_⟩
    unfold State.upToGrant State.readRecordsFor
    have len := State.len_of_ready ready
    rw [State.checked_holds (s.readRecords_same d index n.toNat)]
    · simp only [len]
      rfl
    · simpa [ready, len] using ⟨⟨least, most⟩, inside⟩
  · exact (exec_of_served (act := performDescribe [b]) hs rfl).trans
      (congrArg Host.Outcome.next (State.oneDesign_of_designOf hd))
  · refine ⟨_, exec_of_served (act := performListDesigns []) hs rfl, List.length_ofFn, fun d => ?_⟩
    refine ⟨s.designItem d, List.getElem?_ofFn.trans (dif_pos d.isLt), rfl, rfl, ?_⟩
    cases hd : s.designs.get d <;> simp [State.designItem, hd, Descriptor.state]

end Sys2Proof.Proofs
end

section
/-! PROOFS. Malformed requests, and the checks of each request in their order (R1, R17, R112, R192). -/

namespace Sys2Proof.Machine

variable {s t : State} {d : Design} {b code : Byte} {p : List Byte}

/-! ## Arguments out of their length or range -/

/-- A request whose work is to refuse its argument. -/
theorem exec_malformed {c : Instr} {act : State → State} (hs : s.served) (takes : exec c s = .next (s.takeFrame c act))
    (bad : act s = s.refuse code .badArgument) : exec c s = .next (s.reply code .badArgument .empty) :=
  (exec_of_served hs takes).trans (congrArg Host.Outcome.next bad)

theorem State.noArgument_long {act : State → State} (h : p.length ≠ 0) :
    s.noArgument code p act = s.refuse code .badArgument := by
  unfold State.noArgument
  split
  · exact absurd rfl h
  · rfl

theorem State.oneDesign_long {act : Design → State → State} (h : p.length ≠ 1) :
    s.oneDesign code p act = s.refuse code .badArgument := by
  unfold State.oneDesign
  split
  · exact absurd rfl h
  · rfl

theorem needleOf_eq_none {cfg : Configuration} (h : b.toNat = 0 ∨ cfg.needlesInstalled < b.toNat) : needleOf cfg b = none :=
  dif_neg (by omega)

theorem headOf_eq_none {cfg : Configuration} (h : b.toNat = 0 ∨ cfg.headsInstalled < b.toNat) : headOf cfg b = none := by
  unfold headOf anyHeadOf
  split
  · exact dif_neg (by omega)
  · rfl

theorem spoolStateOf_eq_none (h : 1 < b.toNat) : spoolStateOf b = none := by
  unfold spoolStateOf
  split
  · omega
  · omega
  · rfl

/-- Field values need exactly the bytes of their fields. -/
theorem length_of_fieldValues {shapes : List (Nat × Bool)} {vs : List Int} (h : fieldValues shapes p = some vs) :
    p.length = (shapes.map Prod.fst).sum := by
  induction shapes, p using fieldValues.induct generalizing vs with
  | case1 => rfl
  | case2 signed shapes b rest ih =>
    rw [fieldValues, Option.map_eq_some_iff] at h
    obtain ⟨_, read, -⟩ := h
    simp [ih read, Nat.add_comm]
  | case3 signed shapes b0 b1 rest ih =>
    rw [fieldValues, Option.map_eq_some_iff] at h
    obtain ⟨_, read, -⟩ := h
    simp only [List.length_cons, List.map_cons, List.sum_cons, ih read]
    omega
  | case4 shapes p h1 h2 h3 =>
    rw [fieldValues] at h
    · cases h
    all_goals assumption

theorem performConfigure_long (h : p.length ≠ 52) : performConfigure p s = s.refuse 0x06 .badArgument := by
  unfold performConfigure
  cases read : fieldValues fieldShapes p with
  | none => rfl
  | some vs => exact absurd (length_of_fieldValues read) h

theorem length_of_wordsOf {ws : List Word} (h : wordsOf p = some ws) : p.length = 4 * ws.length := by
  induction p using wordsOf.induct generalizing ws with
  | case1 => cases h; rfl
  | case2 b0 b1 b2 b3 rest ih =>
    rw [wordsOf, Option.map_eq_some_iff] at h
    obtain ⟨ws', read, rfl⟩ := h
    simp [ih read]
    omega
  | case3 p h1 h2 =>
    rw [wordsOf] at h
    · cases h
    all_goals assumption

theorem performLoadData_long (h : p.length < 6 ∨ ∃ n, p[5]? = some n ∧ p.length ≠ 6 + 4 * n.toNat) :
    performLoadData p s = s.refuse 0x11 .badArgument := by
  unfold performLoadData
  split
  · rename_i b i0 i1 i2 i3 n rest
    split
    · rfl
    · rename_i ws read
      refine if_pos fun count => ?_
      have long := length_of_wordsOf read
      rcases h with h | ⟨n', hn, h⟩
      · simp only [List.length_cons] at h
        omega
      · obtain rfl : n = n' := by simpa using hn
        refine h ?_
        simp only [List.length_cons]
        omega
  · rfl

theorem performLoadData_design (h : 32 ≤ b.toNat) (rest : List Byte) :
    performLoadData (b :: rest) s = s.refuse 0x11 .badArgument := by
  unfold performLoadData
  split
  · rename_i eq
    obtain ⟨rfl, -⟩ := List.cons.inj eq
    repeat' split
    · rfl
    · rfl
    · rfl
    · rename_i named
      rw [designOf_eq_none h] at named
      cases named
  · rfl

/-- A request with a design number alone refuses one above 31 (R17). -/
theorem State.oneDesign_design {act : Design → State → State} (h : 32 ≤ b.toNat) (rest : List Byte) :
    s.oneDesign code (b :: rest) act = s.refuse code .badArgument := by
  cases rest with
  | nil => exact State.oneDesign_badArgument h
  | cons x xs => exact State.oneDesign_long (by simp)

theorem performLoadOpen_design (h : 32 ≤ b.toNat) (rest : List Byte) :
    performLoadOpen (b :: rest) s = s.refuse 0x10 .badArgument := by
  unfold performLoadOpen
  split
  · rename_i eq
    obtain ⟨rfl, -⟩ := List.cons.inj eq
    rw [designOf_eq_none h]
  · rfl

theorem performLoadClose_design (h : 32 ≤ b.toNat) (rest : List Byte) :
    performLoadClose (b :: rest) s = s.refuse 0x12 .badArgument := by
  unfold performLoadClose
  split
  · rename_i eq
    obtain ⟨rfl, -⟩ := List.cons.inj eq
    rw [designOf_eq_none h]
  · rfl

theorem performReadRecords_design (h : 32 ≤ b.toNat) (rest : List Byte) :
    performReadRecords (b :: rest) s = s.refuse 0x14 .badArgument := by
  unfold performReadRecords
  split
  · rename_i eq
    obtain ⟨rfl, -⟩ := List.cons.inj eq
    rw [designOf_eq_none h]
  · rfl

end Sys2Proof.Machine

namespace Sys2Proof.Proofs

open Sys2Proof.Machine

/-- Settles O23: each request's own pattern of bytes, and the numbers that name nothing. -/
theorem malformedRefused : Obligations.MalformedRefused := by
  intro s p hs lengths
  refine ⟨fun c code n listed => ?lengths, fun short => ?data, fun b rest high => ⟨?_, fun c code n listed => ?designs⟩,
    fun b out => ?needles, fun b out => ?heads, fun h n v other => ?states⟩
  case lengths =>
    have each : ∀ x ∈ lengths, p.length ≠ x.2.2 →
        exec (x.1 p) s = .next (s.reply x.2.1 .badArgument .empty) := by
      simp only [lengths, List.forall_mem_cons, List.not_mem_nil, false_implies, implies_true, and_true]
      refine ⟨fun h => exec_malformed hs rfl (State.noArgument_long h),
        fun h => exec_malformed hs rfl (State.noArgument_long h),
        fun h => exec_malformed hs rfl (State.noArgument_long h),
        fun h => exec_malformed hs rfl (State.noArgument_long h),
        fun h => exec_malformed hs rfl (State.noArgument_long h),
        fun h => exec_malformed hs rfl (performConfigure_long h),
        fun h => exec_malformed hs rfl (State.noArgument_long h), fun h => exec_malformed hs rfl ?_,
        fun h => exec_malformed hs rfl ?_, fun h => exec_malformed hs rfl (State.oneDesign_long h),
        fun h => exec_malformed hs rfl ?_, fun h => exec_malformed hs rfl (State.oneDesign_long h),
        fun h => exec_malformed hs rfl (State.oneDesign_long h),
        fun h => exec_malformed hs rfl (State.oneDesign_long h),
        fun h => exec_malformed hs rfl (State.oneDesign_long h),
        fun h => exec_malformed hs rfl (State.noArgument_long h),
        fun h => exec_malformed hs rfl (State.oneDesign_long h),
        fun h => exec_malformed hs rfl (State.noArgument_long h),
        fun h => exec_malformed hs rfl (State.noArgument_long h),
        fun h => exec_malformed hs rfl (State.noArgument_long h),
        fun h => exec_malformed hs rfl (State.noArgument_long h), fun h => exec_malformed hs rfl ?_,
        fun h => exec_malformed hs rfl ?_, fun h => exec_malformed hs rfl ?_,
        fun h => exec_malformed hs rfl (State.noArgument_long h), fun h => exec_malformed hs rfl ?_,
        fun h => exec_malformed hs rfl (State.noArgument_long h), fun h => exec_malformed hs rfl ?_,
        fun h => exec_malformed hs rfl ?_, fun h => exec_malformed hs rfl ?_, fun h => exec_malformed hs rfl ?_,
        fun h => exec_malformed hs rfl ?_, fun h => exec_malformed hs rfl ?_, fun h => exec_malformed hs rfl ?_,
        fun h => exec_malformed hs rfl (State.noArgument_long h), fun h => exec_malformed hs rfl ?_,
        fun h => exec_malformed hs rfl ?_⟩
      · unfold performLoadOpen; split <;> [exact absurd rfl h; rfl]
      · unfold performLoadClose; split <;> [exact absurd rfl h; rfl]
      · unfold performReadRecords; split <;> [exact absurd rfl h; rfl]
      · unfold performBack State.walkRequest; split <;> [exact absurd rfl h; rfl]
      · unfold performForward State.walkRequest; split <;> [exact absurd rfl h; rfl]
      · unfold performSetSpeed; split <;> [exact absurd rfl h; rfl]
      · unfold performFrameMove; split <;> [exact absurd rfl h; rfl]
      · unfold performSelectNeedle; split <;> [exact absurd rfl h; rfl]
      · unfold performAssign; split <;> [exact absurd rfl h; rfl]
      · unfold performClearNeedle; split <;> [exact absurd rfl h; rfl]
      · unfold performSpool; split <;> [exact absurd rfl h; rfl]
      · unfold performMend; split <;> [exact absurd rfl h; rfl]
      · unfold performHeadEnable; split <;> [exact absurd rfl h; rfl]
      · unfold performBobbinChanged; split <;> [exact absurd rfl h; rfl]
      · unfold performListConditions; split <;> [exact absurd rfl h; rfl]
      · unfold performAckCondition; split <;> [exact absurd rfl h; rfl]
    exact fun h => each _ listed h
  case data => exact exec_malformed hs rfl (performLoadData_long short)
  case designs =>
    have each : ∀ x ∈ lengths, 0x10 ≤ x.2.1.toNat → x.2.1.toNat ≤ 0x20 → x.2.1 ≠ 0x19 →
        exec (x.1 (b :: rest)) s = .next (s.reply x.2.1 .badArgument .empty) := by
      simp only [lengths, List.forall_mem_cons, List.not_mem_nil, false_implies, implies_true, and_true]
      refine ⟨fun low => absurd low (by decide), fun low => absurd low (by decide), fun low => absurd low (by decide),
        fun low => absurd low (by decide), fun low => absurd low (by decide), fun low => absurd low (by decide),
        fun low => absurd low (by decide), fun _ _ _ => exec_malformed hs rfl (performLoadOpen_design high rest),
        fun _ _ _ => exec_malformed hs rfl (performLoadClose_design high rest),
        fun _ _ _ => exec_malformed hs rfl (State.oneDesign_design high rest),
        fun _ _ _ => exec_malformed hs rfl (performReadRecords_design high rest),
        fun _ _ _ => exec_malformed hs rfl (State.oneDesign_design high rest),
        fun _ _ _ => exec_malformed hs rfl (State.oneDesign_design high rest),
        fun _ _ _ => exec_malformed hs rfl (State.oneDesign_design high rest),
        fun _ _ _ => exec_malformed hs rfl (State.oneDesign_design high rest), fun _ _ list => absurd rfl list,
        fun _ _ _ => exec_malformed hs rfl (State.oneDesign_design high rest),
        fun _ above => absurd above (by decide), fun _ above => absurd above (by decide),
        fun _ above => absurd above (by decide), fun _ above => absurd above (by decide),
        fun _ above => absurd above (by decide), fun _ above => absurd above (by decide),
        fun _ above => absurd above (by decide), fun _ above => absurd above (by decide),
        fun _ above => absurd above (by decide), fun _ above => absurd above (by decide),
        fun _ above => absurd above (by decide), fun _ above => absurd above (by decide),
        fun _ above => absurd above (by decide), fun _ above => absurd above (by decide),
        fun _ above => absurd above (by decide), fun _ above => absurd above (by decide),
        fun _ above => absurd above (by decide), fun _ above => absurd above (by decide),
        fun _ above => absurd above (by decide), fun _ above => absurd above (by decide)⟩
    exact fun low above list _ => each _ listed low above list
  case needles =>
    have none_ := needleOf_eq_none out
    refine ⟨exec_malformed hs rfl ?_, exec_malformed hs rfl ?_, fun h v c0 c1 m0 m1 v0 v1 =>
      ⟨exec_malformed hs rfl ?_, exec_malformed hs rfl ?_⟩⟩
    · simp only [performSelectNeedle, none_]
    · simp only [performClearNeedle, none_]
    · simp only [performSpool, none_]
      split <;> simp_all
    · simp only [performAssign, none_]
  case heads =>
    have none_ := headOf_eq_none out
    refine ⟨exec_malformed hs rfl ?_, exec_malformed hs rfl ?_, fun n v => exec_malformed hs rfl ?_⟩
    · simp only [performMend, none_]
    · simp only [performBobbinChanged, none_]
    · simp only [performSpool, none_]
  case states =>
    refine exec_malformed hs rfl ?_
    simp only [performSpool, spoolStateOf_eq_none other]
    split <;> simp_all
  · exact exec_malformed hs rfl (performLoadData_design high rest)

end Sys2Proof.Proofs
end

section
/-! PROOFS. The checks of each request in their order (R1). -/

namespace Sys2Proof.Machine

variable {s : State} {d : Design} {x : DesignBody} {cursor : Nat} {c : LoadContext}

/-! ## What the model's checks say -/

theorem isKnown_iff (f : FrameState) : f.isKnown = true ↔ ∃ p, f = .known p := by cases f <;> simp [FrameState.isKnown]

theorem anyEnabled_iff : s.anyEnabled = true ↔ ∃ h, s.enabled h = true := by
  unfold State.anyEnabled
  rw [List.any_eq_true]
  exact ⟨fun ⟨h, _, e⟩ => ⟨h, e⟩, fun ⟨h, e⟩ => ⟨h, List.mem_finRange h, e⟩⟩

theorem isReady_iff (y : Descriptor) : y.isReady = true ↔ ∃ x n, y = .ready x n := by cases y <;> simp [Descriptor.isReady]

theorem isStartable_iff (y : Descriptor) :
    y.isStartable = true ↔ ∃ x n, y = .ready x n ∧ x.attrs.startable = true := by
  cases y <;> simp [Descriptor.isStartable]

theorem idleOrStopped_iff (r : RunState) : r.idleOrStopped = true ↔ r = .idle ∨ r = .stopped := by
  cases r <;> simp [RunState.idleOrStopped]

theorem held_iff (r : RunState) : r.held = true ↔ r = .stopped ∨ r = .halted := by cases r <;> simp [RunState.held]

theorem admitsTdc_iff (r : RunState) : r.admitsTdc = true ↔ r = .idle ∨ r = .stopped ∨ r = .halted := by
  cases r <;> simp [RunState.admitsTdc]

/-- A known frame has room for the extent of a READY design (R157). -/
theorem extentFits_iff (known : ∃ p, s.frame.state = .known p) (ready : ∃ x n, s.designs.get d = .ready x n) :
    s.extentFits d = true ↔ ∃ p x n, s.frame.state = .known p ∧ s.designs.get d = .ready x n ∧
      2 * s.config.fieldXlo ≤ p.x + 2 * x.extent.xMin ∧ p.x + 2 * x.extent.xMax ≤ 2 * s.config.fieldXhi ∧
      2 * s.config.fieldXlo ≤ p.x + 2 * x.extent.xMax ∧ p.x + 2 * x.extent.xMin ≤ 2 * s.config.fieldXhi ∧
      2 * s.config.fieldYlo ≤ p.y + 2 * x.extent.yMin ∧ p.y + 2 * x.extent.yMax ≤ 2 * s.config.fieldYhi ∧
      2 * s.config.fieldYlo ≤ p.y + 2 * x.extent.yMax ∧ p.y + 2 * x.extent.yMin ≤ 2 * s.config.fieldYhi := by
  obtain ⟨p, hp⟩ := known
  obtain ⟨x, n, hx⟩ := ready
  simp only [State.extentFits, hp, hx, FrameState.position?, Descriptor.body?, Configuration.boxInField, Configuration.inX,
    Configuration.inY, Bool.and_eq_true, decide_eq_true_eq, FrameState.known.injEq, Descriptor.ready.injEq]
  constructor
  · rintro ⟨⟨⟨⟨a, b⟩, c, e⟩, f, g⟩, h, i⟩
    exact ⟨p, x, n, rfl, ⟨rfl, rfl⟩, a, e, c, b, f, i, h, g⟩
  · rintro ⟨_, _, _, rfl, ⟨rfl, rfl⟩, a, e, c, b, f, i, h, g⟩
    exact ⟨⟨⟨⟨a, b⟩, c, e⟩, f, g⟩, h, i⟩

/-- Every bit of a mask stands for an installed head. -/
theorem mask_installed_iff (cfg : Configuration) (mask : Half) :
    mask &&& ~~~ cfg.headMask = 0 ↔ ∀ i, i < 16 → mask.getLsbD i = true → i < cfg.headsInstalled := by
  have bit {i : Nat} (hi : i < 16) :
      (mask &&& ~~~ cfg.headMask).getLsbD i = (mask.getLsbD i && !decide (i < cfg.headsInstalled)) := by
    rw [BitVec.getLsbD_and, BitVec.getLsbD_not, headMask_getLsbD cfg hi]
    simp [hi]
  constructor
  · intro h i hi set
    have clear := bit hi
    rw [h, set] at clear
    simpa using clear
  · intro h
    refine BitVec.eq_of_getLsbD_eq fun i hi => ?_
    rw [bit hi]
    cases set : mask.getLsbD i
    · simp
    · simpa using h i hi set

/-! ## The checks, one for one -/

theorem State.start_same (s : State) (d : Design) : SameChecks
    [(s.run.state = .idle, .wrongState), (s.haltLine = false, .haltActive),
     (∃ x n, s.designs.get d = .ready x n, .notFound),
     (∃ x n, s.designs.get d = .ready x n ∧ x.attrs.startable = true, .badType),
     (∃ p, s.frame.state = .known p, .notHomed), (s.carriagePosition ≠ none, .carriageLost),
     (∃ h, s.enabled h = true, .noHeads), (s.atTdc = true, .notAtTdc),
     (∃ p x n, s.frame.state = .known p ∧ s.designs.get d = .ready x n ∧
        2 * s.config.fieldXlo ≤ p.x + 2 * x.extent.xMin ∧ p.x + 2 * x.extent.xMax ≤ 2 * s.config.fieldXhi ∧
        2 * s.config.fieldXlo ≤ p.x + 2 * x.extent.xMax ∧ p.x + 2 * x.extent.xMin ≤ 2 * s.config.fieldXhi ∧
        2 * s.config.fieldYlo ≤ p.y + 2 * x.extent.yMin ∧ p.y + 2 * x.extent.yMax ≤ 2 * s.config.fieldYhi ∧
        2 * s.config.fieldYlo ≤ p.y + 2 * x.extent.yMax ∧ p.y + 2 * x.extent.yMin ≤ 2 * s.config.fieldYhi,
      .field)] (s.startChecks d) :=
  .cons noRun_iff <| .cons haltLine_iff <| .guarded (isReady_iff _) fun ready => .cons (isStartable_iff _) <|
    .guarded (isKnown_iff _) fun known => .cons Option.isSome_iff_ne_none <| .cons anyEnabled_iff <| .cons Iff.rfl <|
      .cons (extentFits_iff known ready) .nil

theorem State.resume_same (s : State) : SameChecks
    [(s.run.state = .stopped ∨ s.run.state = .halted, .wrongState), (s.haltLine = false, .haltActive),
     (∃ p, s.frame.state = .known p, .notHomed),
     (s.carriagePosition ≠ none ∧ s.carriagePosition = s.run.needle, .carriageLost),
     (∃ h, s.enabled h = true, .noHeads), (s.atTdc = true, .notAtTdc)] s.resumeChecks :=
  .cons (held_iff _) <| .cons haltLine_iff <| .cons (isKnown_iff _) <|
    .cons (by simp [Option.isSome_iff_ne_none]) <| .cons anyEnabled_iff <| .cons Iff.rfl .nil

theorem State.walk_same (s : State) (n : Nat) : SameChecks
    [(1 ≤ n ∧ n ≤ 4095, .badArgument), (s.run.state = .stopped, .wrongState), (s.haltLine = false, .haltActive),
     (∃ p, s.frame.state = .known p, .notHomed), (s.atTdc = true, .notAtTdc)] (s.walkChecks n) :=
  .cons decide_eq_true_iff <| .cons decide_eq_true_iff <| .cons haltLine_iff <| .cons (isKnown_iff _) <|
    .cons Iff.rfl .nil

theorem State.home_same (s : State) : SameChecks
    [(s.run.state = .idle, .wrongState), (s.haltLine = false, .haltActive),
     (s.frame.state.isHoming = false ∧ s.frame.state.isMoving = false, .wrongState), (s.atTdc = true, .notAtTdc)]
    s.homeChecks :=
  .cons noRun_iff <| .cons haltLine_iff <| .cons (by simp) <| .cons Iff.rfl .nil

theorem targetFits_iff (p : Point) : s.targetFits p = true ↔ ∃ q, s.frame.state = .known q ∧ s.config.inField (q.add p) = true := by
  unfold State.targetFits
  cases s.frame.state <;> simp

theorem State.frameMove_same (s : State) (p : Point) : SameChecks
    [(s.run.state = .idle, .wrongState), (s.haltLine = false, .haltActive),
     (s.frame.state ≠ .unknown ∧ s.frame.state.isHoming = false, .notHomed), (s.frame.state.isMoving = false, .wrongState),
     (s.atTdc = true, .notAtTdc), (∃ q, s.frame.state = .known q ∧ s.config.inField (q.add p) = true, .field)]
    (s.frameMoveChecks p) :=
  .cons noRun_iff <| .cons haltLine_iff <| .cons (by simp) <| .cons (by simp) <| .cons Iff.rfl <|
    .cons (targetFits_iff p) .nil

theorem State.tdc_same (s : State) : SameChecks
    [(s.run.state = .idle ∨ s.run.state = .stopped ∨ s.run.state = .halted, .wrongState),
     (s.haltLine = false, .haltActive), (s.carriage.state = .idle, .wrongState),
     (s.frame.state.isMoving = false ∧ s.frame.state.isHoming = false, .wrongState),
     (s.shaft.state = .still, .wrongState)] s.tdcChecks :=
  .cons (admitsTdc_iff _) <| .cons haltLine_iff <| .cons decide_eq_true_iff <| .cons (by simp) <|
    .cons decide_eq_true_iff .nil

theorem State.select_same (s : State) : SameChecks
    [(s.run.state = .idle ∨ s.run.state = .stopped, .wrongState), (s.haltLine = false, .haltActive),
     (s.shaft.atRest = true ∧ s.shaft.command = 0, .wrongState), (s.carriage.state = .idle, .wrongState)]
    s.selectChecks :=
  .cons (idleOrStopped_iff _) <| .cons haltLine_iff <| .cons (by simp) <| .cons decide_eq_true_iff .nil

theorem State.headEnable_same (s : State) (mask : Half) : SameChecks
    [(∀ i, i < 16 → mask.getLsbD i = true → i < s.config.headsInstalled, .badArgument),
     (s.run.state = .idle ∨ s.run.state = .stopped, .wrongState), (s.shaft.pendingFlag = false, .wrongState)]
    (s.headEnableChecks mask) :=
  .cons (decide_eq_true_iff.trans (mask_installed_iff _ _)) <| .cons (idleOrStopped_iff _) <| .cons (by simp) .nil

/-- READ_RECORDS reads within a READY design (R37). -/
theorem State.readBack_same (s : State) (d : Design) (index count : Nat) : SameChecks
    [(s.designs.get d ≠ .empty, .notFound), (∀ x c, s.designs.get d ≠ .loading x c, .loadActive),
     (1 ≤ count ∧ count ≤ 32, .badArgument),
     (∃ x net, s.designs.get d = .ready x net ∧ index < x.length, .badArgument)]
    (s.readyChecks d ++ [(decide (1 ≤ count ∧ count ≤ 32), .badArgument), (decide (index < s.len d), .badArgument)]) :=
  .guarded decide_eq_true_iff fun some_ =>
    .guarded (by cases s.designs.get d <;> simp [Descriptor.isLoading]) fun closed =>
      .cons decide_eq_true_iff <| .cons (by
        cases hd : s.designs.get d with
        | empty => exact absurd hd some_
        | loading x c => exact absurd hd (closed x c)
        | ready x net => simp [State.len, hd, Descriptor.length, Descriptor.body?]) .nil

/-! ## The first word of a chunk that fails -/

theorem firstFailing_eq_some {d : Design} {n first : Nat} {ws : List Word} {j : Nat}
    (fails : ∃ w, ws[j]? = some w ∧ wordPasses d n (first + j) w = false)
    (passed : ∀ (i : Nat) (w : Word), i < j → ws[i]? = some w → wordPasses d n (first + i) w = true) :
    firstFailing d n first ws = some (first + j) := by
  induction ws generalizing first j with
  | nil => obtain ⟨w, hw, -⟩ := fails; simp at hw
  | cons w ws ih =>
    cases j with
    | zero =>
      obtain ⟨w', hw, bad⟩ := fails
      obtain rfl : w = w' := by simpa using hw
      simp only [Nat.add_zero] at bad ⊢
      simp [firstFailing, bad]
    | succ j =>
      have good : wordPasses d n first w = true := passed 0 w (Nat.succ_pos j) rfl
      have shift (i : Nat) : first + 1 + i = first + (i + 1) := by omega
      rw [firstFailing, if_pos good, ih (first := first + 1) (j := j), shift]
      · obtain ⟨w', hw, bad⟩ := fails
        exact ⟨w', hw, by rw [shift]; exact bad⟩
      · intro i w' hi hw
        rw [shift]
        exact passed (i + 1) w' (Nat.succ_lt_succ hi) hw

theorem firstFailing_eq_none {d : Design} {n first : Nat} {ws : List Word}
    (passed : ∀ (i : Nat) (w : Word), ws[i]? = some w → wordPasses d n (first + i) w = true) :
    firstFailing d n first ws = none := by
  induction ws generalizing first with
  | nil => rfl
  | cons w ws ih =>
    have good : wordPasses d n first w = true := passed 0 w rfl
    rw [firstFailing, if_pos good]
    refine ih fun i w' hw => ?_
    have := passed (i + 1) w' hw
    rwa [show first + 1 + i = first + (i + 1) by omega]

/-! ## A request as its checks and its work -/

theorem performStart_eq {b : Byte} (hd : designOf b = some d) : performStart [b] s =
    s.checked 0x20 (s.startChecks d) fun s => ((s.beginRun d).reply 0x20 .ok .empty).settle :=
  State.oneDesign_of_designOf hd

theorem performResume_eq : performResume [] s =
    s.checked 0x21 s.resumeChecks fun s => (s.resumeRun.reply 0x21 .ok .empty).settle := rfl

theorem performBack_eq (n0 n1 : Byte) : performBack [n0, n1] s = s.checked 0x25 (s.walkChecks (half n0 n1).toNat)
    fun s => ((s.beginWalk .backward (half n0 n1).toNat).reply 0x25 .ok .empty).arbitrate := rfl

theorem performForward_eq (n0 n1 : Byte) : performForward [n0, n1] s = s.checked 0x26 (s.walkChecks (half n0 n1).toNat)
    fun s => ((s.beginWalk .forward (half n0 n1).toNat).reply 0x26 .ok .empty).arbitrate := rfl

theorem performHome_eq : performHome [] s = s.checked 0x30 s.homeChecks fun s =>
    { s with frame := s.frame.beginHoming s.config }.reply 0x30 .ok .empty := rfl

theorem performFrameMove_eq (x0 x1 y0 y1 : Byte) : performFrameMove [x0, x1, y0, y1] s =
    s.checked 0x31 (s.frameMoveChecks ⟨2 * (half x0 x1).toInt, 2 * (half y0 y1).toInt⟩) fun s =>
      (s.beginMove .host ⟨2 * (half x0 x1).toInt, 2 * (half y0 y1).toInt⟩).reply 0x31 .ok .empty := rfl

theorem performShaftToTdc_eq : performShaftToTdc [] s =
    s.checked 0x32 s.tdcChecks fun s => s.toTdc.reply 0x32 .ok .empty := rfl

theorem performSelectNeedle_eq {b : Byte} {n : Needle} (hn : needleOf s.config b = some n) : performSelectNeedle [b] s =
    s.checked 0x33 s.selectChecks fun s => (s.moveCarriageTo n).reply 0x33 .ok .empty := by
  simp only [performSelectNeedle, hn]
  rfl

theorem performHeadEnable_eq (m0 m1 : Byte) : performHeadEnable [m0, m1] s =
    s.checked 0x44 (s.headEnableChecks (half m0 m1)) fun s =>
      (s.setEnable (half m0 m1)).reply 0x44 .ok (.mask (half m0 m1)) := rfl

theorem State.openFor_eq_none (h : ∀ c, s.load = some c → c.design ≠ d) : s.openFor d = none := by
  unfold State.openFor
  cases hl : s.load with
  | none => rfl
  | some c => simp [h c hl]

end Sys2Proof.Machine

namespace Sys2Proof.Proofs

open Sys2Proof.Machine

/-- Settles O24: each request's checks are the statement's, one for one. -/
theorem refusalsInOrder : Obligations.RefusalsInOrder := by
  intro s st hs noRun halt known tdc heads
  have checked {c : Instr} {act work : State → State} {code : Byte} {props : List (Prop × Status)}
      {checks : List (Bool × Status)} (takes : exec c s = .next (s.takeFrame c act))
      (same : SameChecks props checks) (does : act s = s.checked code checks work) (refuses : refusesWith props st) :
      exec c s = .next (s.reply code st .empty) :=
    (exec_of_served hs takes).trans (congrArg Host.Outcome.next (does.trans (State.checked_refusesWith same refuses)))
  refine ⟨fun b d hd => ?start, ?resume,
    fun n0 n1 refuses => ⟨?back, ?forward⟩, ?home,
    fun x0 x1 y0 y1 => ?frameMove, ?tdc, fun b n hn => ?select,
    fun m0 m1 => ?headEnable, fun b d b0 b1 l0 l1 l2 l3 a hd => ?loadOpen,
    fun b d n i0 i1 i2 i3 s0 s1 ws hd count => ?load, fun b d i0 i1 i2 i3 n hd => ?readRecords⟩
  case start => exact checked rfl (s.start_same d) (performStart_eq hd)
  case resume => exact checked rfl s.resume_same performResume_eq
  case back => exact checked rfl (s.walk_same _) (performBack_eq n0 n1) refuses
  case forward => exact checked rfl (s.walk_same _) (performForward_eq n0 n1) refuses
  case home => exact checked rfl s.home_same performHome_eq
  case frameMove => exact checked rfl (s.frameMove_same ⟨2 * (half x0 x1).toInt, 2 * (half y0 y1).toInt⟩) (performFrameMove_eq x0 x1 y0 y1)
  case tdc => exact checked rfl s.tdc_same performShaftToTdc_eq
  case select => exact checked rfl s.select_same (performSelectNeedle_eq hn)
  case headEnable => exact checked rfl (s.headEnable_same _) (performHeadEnable_eq m0 m1)
  case loadOpen =>
    intro refuses
    rw [exec_loadOpen_served hs hd]
    exact congrArg Host.Outcome.next (State.checked_refusesWith (s.loadOpen_same ..) refuses)
  case readRecords =>
    intro refuses
    rw [exec_readRecords_served hs hd]
    exact congrArg Host.Outcome.next (State.checked_refusesWith (s.readBack_same ..) refuses)
  case load =>
    intro data first
    have loads : exec data s = .next (s.loadDataFor d first ws) := exec_loadData_served hs hd count i0 i1 i2 i3
    refine ⟨fun other => ?_, fun c x cursor open_ this loading => ?_⟩
    · have none_ := State.openFor_eq_none other
      rw [loads, exec_loadClose_served hs hd, exec_loadCancel_served hs hd, State.loadDataFor, State.loadCloseFor,
        State.loadCancelFor, none_]
      exact ⟨rfl, rfl, rfl⟩
    · have offers : exec data s = .next (s.offerChunk d c x cursor first ws) := by
        rw [loads, State.loadDataFor, State.openFor_of_load open_ this loading]
      rw [offers]
      unfold State.offerChunk
      refine ⟨fun out => ?_, fun least most => ⟨fun off => ?_, fun at_ long => ?_, fun at_ room =>
        ⟨fun j fails passed => ?_, fun passed full0 full1 => ?_⟩⟩⟩
      · rw [if_pos (by omega)]; rfl
      all_goals rw [if_neg (not_not.2 ⟨least, most⟩)]
      · rw [if_pos off]
      all_goals rw [if_neg (not_not.2 at_)]
      · rw [if_pos long]
      all_goals rw [if_neg (Nat.not_lt.2 room)]
      · rw [firstFailing_eq_some fails passed]
      · have full : c.hasFree = false := by
          simp [LoadContext.hasFree, Option.isSome_iff_ne_none.2 full0, Option.isSome_iff_ne_none.2 full1]
        rw [firstFailing_eq_none passed]
        simp only [full]
        rfl

end Sys2Proof.Proofs
end

section
/-! PROOFS. The path: settled positions, the annotation of an entry, and the feed's records (R52, R60 to R62, R83). -/

namespace Sys2Proof.Machine

/-! ## Settled positions -/

theorem settlePos_of_off {len : Design → Nat} {f : ChainFrame} (callers : List ChainFrame)
    (h : f.index + 1 ≠ len f.design) : settlePos len f callers = ⟨f, callers⟩ := by
  cases callers with
  | nil => rfl
  | cons c up => rw [settlePos, if_neg h]

/-- A motif's END with a repetition left leads to that repetition's record 0. -/
theorem settlePos_of_repeat {len : Design → Nat} {f c : ChainFrame} {up : List ChainFrame}
    (h : f.index + 1 = len f.design) (more : 1 < len f.design ∧ f.rep < f.reps) :
    settlePos len f (c :: up) = ⟨{ f with index := 0, rep := f.rep + 1 }, c :: up⟩ := by
  rw [settlePos, if_pos h, if_pos more]

/-- A motif's END with no repetition left leads behind the CALL. -/
theorem settlePos_of_last {len : Design → Nat} {f c : ChainFrame} {up : List ChainFrame}
    (h : f.index + 1 = len f.design) (done : ¬(1 < len f.design ∧ f.rep < f.reps)) :
    settlePos len f (c :: up) = settlePos len { c with index := c.index + 1 } up := by
  rw [settlePos, if_pos h, if_neg done]

/-- The chain of a settled position is no deeper, and its position no motif's END. -/
theorem settlePos_settled (len : Design → Nat) (f : ChainFrame) (callers : List ChainFrame) :
    ((settlePos len f callers).callers ≠ [] →
      (settlePos len f callers).inner.index + 1 ≠ len (settlePos len f callers).inner.design) ∧
    (settlePos len f callers).callers.length ≤ callers.length := by
  induction callers generalizing f with
  | nil => exact ⟨fun h => absurd rfl h, le_rfl⟩
  | cons c up ih =>
    by_cases atEnd : f.index + 1 = len f.design
    · by_cases more : 1 < len f.design ∧ f.rep < f.reps
      · rw [settlePos_of_repeat atEnd more]
        exact ⟨fun _ => by simpa using more.1.ne, le_rfl⟩
      · rw [settlePos_of_last atEnd more]
        have ⟨off, deep⟩ := ih { c with index := c.index + 1 }
        exact ⟨off, deep.trans (Nat.le_succ _)⟩
    · rw [settlePos_of_off _ atEnd]
      exact ⟨fun _ => atEnd, le_rfl⟩

/-! ## The annotation of an entry -/

theorem Configuration.inField_iff {cfg : Configuration} {p : Point} : cfg.inField p = true ↔
    2 * cfg.fieldXlo ≤ p.x ∧ p.x ≤ 2 * cfg.fieldXhi ∧ 2 * cfg.fieldYlo ≤ p.y ∧ p.y ≤ 2 * cfg.fieldYhi := by
  simp [Configuration.inField, Configuration.inX, Configuration.inY, and_assoc]

theorem State.annotate_of_still (s : State) {kind : EntryKind} (pos : Position)
    (h : ∀ dx dy, kind ≠ .stitch dx dy ∧ kind ≠ .jump dx dy) : s.annotate kind pos = s.annotateStill kind pos := by
  cases kind with
  | stitch dx dy => exact absurd rfl (h dx dy).1
  | jump dx dy => exact absurd rfl (h dx dy).2
  | trim | colour _ | pause | endMain | fault _ => rfl

theorem State.annotate_of_movement (s : State) {kind : EntryKind} (pos : Position) {dx dy : Int}
    (h : kind = .stitch dx dy ∨ kind = .jump dx dy) : s.annotate kind pos = s.annotateMove kind pos dx dy := by
  rcases h with rfl | rfl <;> rfl

theorem Configuration.nMax_zero (cfg : Configuration) : cfg.nMax 0 = cfg.speedMax := rfl

/-- N_max is the highest speed whose window the move fits (R78). -/
theorem Configuration.le_nMax_iff (cfg : Configuration) {t : Nat} (h : 0 < t) (n : Nat) :
    n ≤ cfg.nMax t ↔ 64 * t * n ≤ windowLength cfg.windowOpen cfg.windowClose * 3750000 := by
  rw [Configuration.nMax, if_neg h.ne', Nat.le_div_iff_mul_le (by omega), Nat.mul_comm]

theorem State.plannedFrom_of_tail {s : State} {e : Entry} (h : s.queue.getLast? = some e) :
    s.plannedFrom = e.planned := by
  simp [State.plannedFrom, h]

theorem State.plannedFrom_of_known {s : State} {p : Point} (empty : s.queue = []) (h : s.frame.state = .known p) :
    s.plannedFrom = p := by
  simp [State.plannedFrom, empty, h]

theorem State.plannedFrom_of_moving {s : State} {m : Move} (empty : s.queue = []) (h : s.frame.state = .moving m)
    (alone : s.frame.followOn = none) : s.plannedFrom = m.target := by
  simp [State.plannedFrom, empty, h, alone]

theorem State.plannedFrom_of_followOn {s : State} {m : Move} {g : FollowOn} (empty : s.queue = [])
    (h : s.frame.state = .moving m) (behind : s.frame.followOn = some g) : s.plannedFrom = m.target.add g.disp := by
  simp [State.plannedFrom, empty, h, behind]

/-! ## The feed's records -/

section Feed

variable {s : State} {p : Position} {motif : Design} {reps : Nat} {rest : List Record}

theorem State.callFailure_absent (h : (s.designs.get motif).isReady = false) :
    s.callFailure p motif = some .motifAbsent := by
  simp [State.callFailure, h]

section Ready

variable {x : DesignBody} {n : Option Point} (ready : s.designs.get motif = .ready x n)
include ready

theorem State.callFailure_of_ready : s.callFailure p motif =
    if x.attrs.callable = false then some .notCallable
    else if motif ∈ p.designs then some .recursive else if 4 ≤ p.depth then some .tooDeep else none := by
  simp [State.callFailure, ready, Descriptor.isReady, Descriptor.isCallable]

end Ready

theorem State.feedRecords_call_fails (fetch : s.feed.fetch = p) {reason : FaultReason}
    (h : s.callFailure p motif = some reason) : s.feedRecords (.call motif reps :: rest) =
      { s with queue := s.queue ++ [s.annotate (.fault reason) p], feed := { s.feed with blocked := true } } := by
  subst fetch
  simp only [State.feedRecords, State.processCall, h]
  rfl

theorem State.feedRecords_call_follows (fetch : s.feed.fetch = p) (h : s.callFailure p motif = none) :
    s.feedRecords (.call motif reps :: rest) =
      ({ s with run := s.run.visit motif }.fetchAt (p.enter s.len motif reps)).clearRecordFault p := by
  subst fetch
  simp only [State.feedRecords, State.processCall, h]

end Feed

theorem Run.mem_visit {r : Run} {motif d : Design} : d ∈ (r.visit motif).visited ↔ d = motif ∨ d ∈ r.visited := by
  unfold Run.visit
  split
  · rename_i h
    exact ⟨.inr, fun h' => h'.elim (fun e => by simpa [e] using h) id⟩
  · simp [or_comm]

/-- A cause that was cleared is not open. -/
theorem State.clearCause_state {s : State} (sound : s.conditionsSound) {k : Key} {c : Condition}
    (h : (s.clearCause k).condition? k = some c) : c.state = .cleared := by
  have unique : (s.conditions.map (·.key)).Nodup := sound.1
  cases found : s.condition? k with
  | none => rw [State.clearCause_of_absent sound found, found] at h; cases h
  | some x =>
    by_cases cleared : x.state = .cleared
    · rw [State.clearCause_of_cleared sound found cleared, found] at h
      obtain rfl : x = c := by simpa using h
      exact cleared
    · have left : entryOf k (amend k Condition.clear s.conditions) = x.clear :=
        entryOf_amend_self Condition.clear_key unique found
      rw [State.clearCause_of_open sound found cleared] at h
      have kept : x.clear = some c := left.symm.trans h
      cases hx : x.state <;> simp only [Condition.clear, hx] at kept <;> cases kept
      · rfl
      · exact hx

theorem State.clearCause_causeOpen {s : State} (sound : s.conditionsSound) (k : Key) :
    (s.clearCause k).causeOpen k = false := by
  rw [State.causeOpen_eq (State.conditionsSound_clearCause sound k)]
  cases h : (s.clearCause k).condition? k with
  | none => rfl
  | some c => simp [Condition.causeOpen, State.clearCause_state sound h]

/-- RECORD_FAULT's clearing changes the condition table alone. -/
theorem State.clearRecordFault_eq (p : Position) (s : State) : s.clearRecordFault p =
    { s with conditions := (s.clearRecordFault p).conditions, changes := (s.clearRecordFault p).changes } := by
  unfold State.clearRecordFault
  repeat' split
  · rfl
  · exact s.clearCause_eq _
  · rfl

theorem State.clearRecordFault_clears {s : State} (sound : s.conditionsSound) {p : Position} {c : Condition}
    (h : (s.clearRecordFault p).condition? .recordFault = some c) (at_ : c.position = some p) : c.state = .cleared := by
  unfold State.clearRecordFault at h
  cases found : s.condition? .recordFault with
  | none => simp only [found] at h; cases h
  | some x =>
    simp only [found] at h
    split at h
    · exact State.clearCause_state sound h
    · rename_i other
      rw [found] at h
      obtain rfl : x = c := by simpa using h
      exact absurd at_ other

end Sys2Proof.Machine

namespace Sys2Proof.Proofs
open Sys2Proof.Machine

/-- Settles O25, by induction on the callers. -/
theorem settledPosition : Obligations.SettledPosition := by
  intro len f callers
  refine ⟨settlePos_settled len f callers, fun h => ?_, fun c up hc atEnd => ?_⟩
  · rcases h with rfl | off
    · rfl
    · exact settlePos_of_off callers off
  · subst hc
    exact ⟨fun long more => settlePos_of_repeat atEnd ⟨long, more⟩, fun done => settlePos_of_last atEnd (by omega)⟩

/-- Settles O26. -/
theorem entryAnnotated : Obligations.EntryAnnotated := by
  intro s kind pos e window
  refine ⟨?_, ?_, fun dx dy moves => ?_, fun still => ?_, fun x => State.plannedFrom_of_tail,
    fun empty p => State.plannedFrom_of_known empty, fun empty m moving => ?_⟩
  · cases kind <;> rfl
  · cases kind <;> rfl
  · have he : e = s.annotateMove kind pos dx dy := s.annotate_of_movement pos moves
    rw [he]
    refine ⟨rfl, rfl, fun none_ => ?_, fun some_ n => s.config.le_nMax_iff some_ n, decide_eq_true_iff, rfl, ?_⟩
    · change s.config.nMax (s.annotateMove kind pos dx dy).time = _
      rw [none_]; rfl
    · rw [← Configuration.inField_iff]
      change (!s.config.inField (s.annotateMove kind pos dx dy).planned) = false ↔ _
      rw [Bool.not_eq_false']
  · have he : e = s.annotateStill kind pos := s.annotate_of_still pos still
    rw [he]
    exact ⟨rfl, rfl, rfl, rfl, rfl, rfl⟩
  · exact ⟨State.plannedFrom_of_moving empty moving, fun g => State.plannedFrom_of_followOn empty moving⟩

/-- Settles O27. -/
theorem feedProcessesRecords : Obligations.FeedProcessesRecords := by
  intro s p r rest fetch at?
  refine ⟨fun kind joins => ?_, fun hr => ?_, fun motif reps hr => ?_⟩
  · subst fetch
    rcases joins with ⟨dx, dy, rfl, rfl⟩ | ⟨dx, dy, rfl, rfl⟩ | ⟨rfl, rfl⟩ | ⟨code, rfl, rfl⟩ | ⟨rfl, rfl⟩ <;> rfl
  · subst hr fetch; rfl
  · subst hr
    intro fails
    cases hd : s.designs.get motif with
    | empty => exact .inl ⟨rfl, State.feedRecords_call_fails fetch (State.callFailure_absent (by rw [hd]; rfl))⟩
    | loading x n => exact .inl ⟨rfl, State.feedRecords_call_fails fetch (State.callFailure_absent (by rw [hd]; rfl))⟩
    | ready x n =>
      refine .inr ⟨x, n, rfl, fun closed => ?_, fun open_ within => ?_, fun open_ without deep => ?_,
        fun open_ without shallow => ?_⟩
      · exact State.feedRecords_call_fails fetch (by simp [State.callFailure_of_ready hd, closed])
      · exact State.feedRecords_call_fails fetch (by simp [State.callFailure_of_ready hd, open_, within])
      · exact State.feedRecords_call_fails fetch (by simp [State.callFailure_of_ready hd, open_, without, deep])
      · have follows : s.callFailure p motif = none := by
          simp [State.callFailure_of_ready hd, open_, without, Nat.not_le.2 shallow]
        intro t
        have ht : t = ({ s with run := s.run.visit motif }.fetchAt (p.enter s.len motif reps)).clearRecordFault p :=
          State.feedRecords_call_follows fetch follows
        have visited : t.run.visited = (s.run.visit motif).visited := by rw [ht, State.clearRecordFault_eq]; rfl
        refine ⟨by rw [ht, State.clearRecordFault_eq]; rfl, by rw [ht, State.clearRecordFault_eq]; rfl, ?_, fun d => ?_,
          fun c sound found => ?_⟩
        · rw [visited]; exact Run.mem_visit.2 (.inl rfl)
        · rw [visited]; exact Run.mem_visit
        · rw [ht] at found
          exact State.clearRecordFault_clears (s := { s with run := s.run.visit motif }.fetchAt _) sound found

end Sys2Proof.Proofs
end

section
/-! PROOFS. The frame: the pulses of a move and what an emergency halt leaves of it (R76, R80, R88). -/

namespace Sys2Proof.Machine

/-! ## Minor pulses -/

theorem le_minorIssued_iff {m mn j k : Nat} (hm : 0 < m) : k ≤ minorIssued m mn j ↔ k * m ≤ j * mn := by
  rw [minorIssued, Nat.le_div_iff_mul_le hm]

theorem minorPulseAt_le_iff {m mn j k : Nat} (hmn : 0 < mn) : minorPulseAt m mn k ≤ j ↔ k * m ≤ j * mn := by
  rw [minorPulseAt, ← Nat.lt_succ_iff, Nat.div_lt_iff_lt_mul hmn, Nat.succ_mul]
  omega

/-- The pulse that a minor pulse goes with is the least at which it is due. -/
theorem minorPulseAt_bounds {m mn : Nat} (hmn : 0 < mn) (k : Nat) :
    k * m ≤ minorPulseAt m mn k * mn ∧ minorPulseAt m mn k * mn < k * m + mn := by
  have least := (minorPulseAt_le_iff (m := m) (k := k) hmn).1 le_rfl
  have most : minorPulseAt m mn k * mn ≤ k * m + mn - 1 := Nat.div_mul_le_self ..
  omega

theorem minorIssued_le {m mn j : Nat} (h : j ≤ m) : minorIssued m mn j ≤ mn :=
  Nat.div_le_of_le_mul (Nat.mul_le_mul_right mn h)

/-! ## Where the pulses leave the frame -/

/-- A position some of the pulses of an axis away lies between the axis's start and its target. -/
theorem between_of_pulses (start v : Int) {k : Nat} (h : k ≤ v.natAbs) :
    min start (start + v) ≤ start + v.sign * k ∧ start + v.sign * k ≤ max start (start + v) := by
  rcases lt_trichotomy v 0 with neg | rfl | pos
  · rw [Int.sign_eq_neg_one_of_neg neg]; omega
  · simp
  · rw [Int.sign_eq_one_of_pos pos]; omega

/-- The pulses issued on the x axis of a move. -/
def Move.pulsesX (m : Move) : Nat :=
  if m.disp.y.natAbs ≤ m.disp.x.natAbs then m.issued else minorIssued m.disp.major m.disp.minor m.issued

/-- The pulses issued on the y axis of a move. -/
def Move.pulsesY (m : Move) : Nat :=
  if m.disp.y.natAbs ≤ m.disp.x.natAbs then minorIssued m.disp.major m.disp.minor m.issued else m.issued

theorem Move.position_eq (m : Move) :
    m.position = ⟨m.start.x + m.disp.x.sign * m.pulsesX, m.start.y + m.disp.y.sign * m.pulsesY⟩ := by
  unfold Move.position Move.issuedDisp Move.pulsesX Move.pulsesY
  split <;> rfl

/-- No axis is given more pulses than its displacement has. -/
theorem Move.pulses_le {m : Move} (h : m.issued ≤ m.disp.major) :
    m.pulsesX ≤ m.disp.x.natAbs ∧ m.pulsesY ≤ m.disp.y.natAbs := by
  have minor : minorIssued m.disp.major m.disp.minor m.issued ≤ m.disp.minor := minorIssued_le h
  unfold Move.pulsesX Move.pulsesY
  simp only [Point.major, Point.minor] at h minor ⊢
  split <;> omega

theorem FrameUnit.halt_of_moving {f : FrameUnit} {m : Move} (h : f.state = .moving m) :
    f.halt = { f with
      state := .known m.position, followOn := none
      residual := if m.kind = .host then none else if f.remainder m = ⟨0, 0⟩ then none else some (f.remainder m) } := by
  simp only [FrameUnit.halt, h]

/-- What is left of the moves, from where the frame stands, leads to where they were to end. -/
theorem FrameUnit.position_add_remainder (f : FrameUnit) (m : Move) :
    m.position.add (f.remainder m) = m.target.add ((f.followOn.map (·.disp)).getD ⟨0, 0⟩) := by
  unfold FrameUnit.remainder
  cases f.followOn <;> simp [Point.add, Point.sub]
  constructor <;> ring

theorem Point.add_eq_self_iff {p q : Point} : p.add q = p ↔ q = ⟨0, 0⟩ := by
  cases p; cases q; simp [Point.add]

section Halted

variable {s : State}

theorem State.haltedFrame_state (s : State) : s.haltedFrame.state = s.frame.halt.state := by
  unfold State.haltedFrame; split <;> rfl

theorem State.haltedFrame_followOn (s : State) : s.haltedFrame.followOn = s.frame.halt.followOn := by
  unfold State.haltedFrame; split <;> rfl

theorem State.haltedFrame_of_idle (h : s.run.state = .idle) : s.haltedFrame.residual = none := by
  simp [State.haltedFrame, State.runExists, h]

theorem State.haltedFrame_of_run (h : s.run.state ≠ .idle) : s.haltedFrame = s.frame.halt := by
  simp [State.haltedFrame, State.runExists, h]

theorem State.haltedFrame_residual_of_host {m : Move} (moving : s.frame.state = .moving m) (host : m.kind = .host) :
    s.haltedFrame.residual = none := by
  have none_ : s.frame.halt.residual = none := by simp [FrameUnit.halt_of_moving moving, host]
  unfold State.haltedFrame
  split
  · exact none_
  · rfl

theorem State.haltedFrame_residual_of_run {m : Move} (moving : s.frame.state = .moving m) (host : m.kind ≠ .host)
    (h : s.run.state ≠ .idle) : s.haltedFrame.residual =
      if s.frame.remainder m = ⟨0, 0⟩ then none else some (s.frame.remainder m) := by
  rw [State.haltedFrame_of_run h, FrameUnit.halt_of_moving moving]
  simp [host]

end Halted

end Sys2Proof.Machine

namespace Sys2Proof.Proofs
open Sys2Proof.Machine

/-- Settles O28. -/
theorem minorPulses : Obligations.MinorPulses := by
  intro m mn le pos
  refine ⟨fun j k _ first last => ?_, fun k first last => minorPulseAt_bounds (by omega) k, ?_,
    fun j hj => minorIssued_le hj⟩
  · rw [le_minorIssued_iff pos, minorPulseAt_le_iff (by omega)]
  · exact Nat.mul_div_cancel_left _ pos

/-- Settles O29. -/
theorem haltStopsFrame : Obligations.HaltStopsFrame := by
  intro s
  refine ⟨fun m moving within => ?_, fun x y homing => ?_, fun still rest => ?_⟩
  · intro ux uy minor
    obtain ⟨fewX, fewY⟩ := Move.pulses_le within
    obtain ⟨leastX, mostX⟩ := between_of_pulses m.start.x m.disp.x fewX
    obtain ⟨leastY, mostY⟩ := between_of_pulses m.start.y m.disp.y fewY
    have ends := s.frame.position_add_remainder m
    have halted := FrameUnit.halt_of_moving moving
    rw [Move.position_eq] at ends halted
    refine ⟨⟨m.start.x + m.disp.x.sign * m.pulsesX, m.start.y + m.disp.y.sign * m.pulsesY⟩,
      by rw [State.haltedFrame_state, halted], by rw [State.haltedFrame_followOn, halted], rfl, rfl,
      leastX, mostX, leastY, mostY, fun gone => ?_, fun host run => ?_⟩
    · exact gone.elim (State.haltedFrame_residual_of_host moving) State.haltedFrame_of_idle
    · intro left
      rw [State.haltedFrame_residual_of_run moving host run, ← Move.position_eq]
      rw [← Move.position_eq] at ends
      have none_iff : left = m.position ↔ s.frame.remainder m = ⟨0, 0⟩ := by
        rw [← Point.add_eq_self_iff (p := m.position), ends]
      refine ⟨fun h => if_pos (none_iff.1 h), fun h => ⟨_, if_neg (mt none_iff.2 h), ends⟩⟩
  · rw [State.haltedFrame_state]
    refine ⟨by simp [FrameUnit.halt, homing], ?_⟩
    unfold State.haltedFrame
    split <;> simp [FrameUnit.halt, homing]
  · rw [State.haltedFrame_state]
    cases h : s.frame.state with
    | moving m => rw [h] at still; cases still
    | homing x y => rw [h] at rest; cases rest
    | unknown | known p => simp [FrameUnit.halt, h]

end Sys2Proof.Proofs
end

section
/-! PROOFS. The speed plan (R98 to R101), SHAFT_TO_TDC and SET_SPEED (R103, R110), and the requests that the active
halt line refuses (R169). -/

namespace Sys2Proof.Machine

variable {s : State}

/-! ## The plan bound -/

section Bounds

variable (s) (cap : Nat)

/-- The bounds of the entries behind the one being begun are met, and the one of the unknown record. -/
theorem State.boundBeyond_le_boundAt (i : Nat) (es : List Entry) {j : Nat} {x : Entry} (h : es[j]? = some x) :
    s.boundBeyond cap i es ≤ s.boundAt cap (i + j) x := by
  induction es generalizing i j with
  | nil => cases h
  | cons e es ih =>
    cases j with
    | zero =>
      obtain rfl : e = x := by simpa using h
      exact Nat.min_le_left ..
    | succ j =>
      rw [Nat.add_comm j 1, ← Nat.add_assoc]
      exact (Nat.min_le_right ..).trans (ih (i + 1) h)

theorem State.boundBeyond_le_tail (i : Nat) (es : List Entry) :
    s.boundBeyond cap i es ≤ s.config.speedMin + (i + es.length - 1) * s.config.decelStep := by
  induction es generalizing i with
  | nil => exact le_rfl
  | cons e es ih =>
    have h := (Nat.min_le_right (s.boundAt cap i e) _).trans (ih (i + 1))
    rwa [Nat.add_right_comm] at h

/-- The bound of the queue is one of those bounds. -/
theorem State.boundBeyond_attained (i : Nat) (es : List Entry) :
    s.boundBeyond cap i es = s.config.speedMin + (i + es.length - 1) * s.config.decelStep ∨
      ∃ j x, es[j]? = some x ∧ s.boundBeyond cap i es = s.boundAt cap (i + j) x := by
  induction es generalizing i with
  | nil => exact .inl rfl
  | cons e es ih =>
    rcases min_choice (s.boundAt cap i e) (s.boundBeyond cap (i + 1) es) with first | later
    · exact .inr ⟨0, e, rfl, first⟩
    · rw [State.boundBeyond, later]
      rcases ih (i + 1) with tail | ⟨j, x, hx, at_⟩
      · exact .inl (by rw [tail, List.length_cons, Nat.add_right_comm, Nat.add_assoc])
      · exact .inr ⟨j + 1, x, hx, by rw [at_, Nat.add_right_comm, Nat.add_assoc]⟩

/-- The bound of the entry `j` places behind the one being begun. -/
theorem State.boundAt_succ (j : Nat) (x : Entry) : s.boundAt cap (1 + j) x =
    if x.isStop then s.config.speedMin + j * s.config.decelStep else s.entryLimit cap x + (j + 1) * s.config.decelStep := by
  rw [State.boundAt, Nat.add_sub_cancel_left, Nat.add_comm 1 j]

end Bounds

theorem State.effectiveCap_lowered (h : s.shaft.backoff = true ∨ s.shaft.stopReq = .controlled) :
    s.effectiveCap = min (min s.config.speedMax (max s.shaft.hostCap s.floorSpeed)) s.floorSpeed := by
  rcases h with h | h <;> simp [State.effectiveCap, h]

theorem State.effectiveCap_plain (backoff : s.shaft.backoff = false) (stop : s.shaft.stopReq ≠ .controlled) :
    s.effectiveCap = min s.config.speedMax (max s.shaft.hostCap s.floorSpeed) := by
  simp [State.effectiveCap, backoff, stop]

theorem State.ceiling_of_needle {n : Needle} {x : Thread} (current : s.run.needle = some n)
    (valid : (s.needles.get n).thread = some x) : s.ceiling = x.ceiling := by
  simp [State.ceiling, current, valid]

theorem State.ceiling_of_none (h : ∀ n, s.run.needle = some n → (s.needles.get n).thread = none) :
    s.ceiling = s.config.speedMax := by
  unfold State.ceiling
  cases current : s.run.needle with
  | none => rfl
  | some n => simp [h n current]

/-- With the cap at the floor, the floor is the speed. -/
theorem State.planSpeed_lowered (h : s.shaft.backoff = true ∨ s.shaft.stopReq = .controlled) (e : Entry)
    (rest : List Entry) : s.planSpeed e rest = s.floorSpeed := by
  have cap := State.effectiveCap_lowered h
  have bound := State.planBound_le (s := s) s.effectiveCap e rest
  unfold State.planSpeed
  omega

/-! ## SHAFT_TO_TDC -/

theorem State.toTdc_there (h : s.atTdc = true) : s.toTdc = s := by rw [State.toTdc, if_pos h]

theorem State.toTdc_away (h : s.atTdc = false) : s.toTdc = { s with shaft := { s.shaft with
    state := .positioning, enable := true
    command := if inBand s.config s.shaft.angle = true ∧ s.shaft.pendingFlag = false then 0 else s.config.speedMin } } := by
  rw [State.toTdc, if_neg (by simp [h])]
  simp only [State.bandCheck, Shaft.bandCheck]
  by_cases band : inBand s.config s.shaft.angle = true ∧ s.shaft.pendingFlag = false
  · obtain ⟨inside, clear⟩ := band
    have turning : s.shaft.atRest = false := by simpa [State.atTdc, inside, clear] using h
    simp [inside, clear, turning]
  · rw [if_neg (by simpa using band), if_neg band]

/-! ## Checks that the halt line fails -/

/-- One failing check makes a refusal. -/
theorem firstRefusal_of_mem {checks : List (Bool × Status)} {st : Status} (fails : (false, st) ∈ checks)
    (refusals : ∀ c ∈ checks, c.2 ≠ .ok) : ∃ st, st ≠ .ok ∧ firstRefusal checks = some st := by
  induction checks with
  | nil => cases fails
  | cons c checks ih =>
    obtain ⟨b, x⟩ := c
    cases b with
    | false => exact ⟨x, refusals _ List.mem_cons_self, rfl⟩
    | true =>
      rcases List.mem_cons.1 fails with eq | fails
      · cases eq
      · exact ih fails fun c hc => refusals c (List.mem_cons_of_mem _ hc)

/-- A request whose checks name the halt line is refused while it is active. -/
theorem exec_of_halted {c : Instr} {act work : State → State} {code : Byte} {checks : List (Bool × Status)}
    (hs : s.served) (halted : s.haltLine = true) (takes : exec c s = .next (s.takeFrame c act))
    (does : act s = s.checked code checks work) (named : (!s.haltLine, .haltActive) ∈ checks)
    (refusals : ∀ c ∈ checks, c.2 ≠ .ok) : ∃ code st, st ≠ .ok ∧ exec c s = .next (s.reply code st .empty) := by
  obtain ⟨st, notOk, refused⟩ := firstRefusal_of_mem (by simpa [halted] using named) refusals
  exact ⟨code, st, notOk, (exec_of_served hs takes).trans
    (congrArg Host.Outcome.next (does.trans (State.checked_refused _ _ _ _ _ refused)))⟩

end Sys2Proof.Machine

namespace Sys2Proof.Proofs
open Sys2Proof.Machine

/-- Settles O32. -/
theorem speedPlan : Obligations.SpeedPlan := by
  intro s e rest lo base cap bound v limit
  have beyond : bound ≤ s.boundBeyond cap 1 rest := Nat.min_le_right ..
  refine ⟨State.effectiveCap_lowered, State.effectiveCap_plain, fun n x => State.ceiling_of_needle,
    State.ceiling_of_none, rfl, Nat.min_le_left .., fun j x hx => ?_, ?_, ?_, fun h => State.planSpeed_lowered h e rest,
    fun order previous => ?_⟩
  · exact (beyond.trans (s.boundBeyond_le_boundAt cap 1 rest hx)).trans_eq (s.boundAt_succ cap j x)
  · exact (beyond.trans (s.boundBeyond_le_tail cap 1 rest)).trans_eq (by rw [Nat.add_sub_cancel_left])
  · rcases min_choice (s.entryLimit cap e) (s.boundBeyond cap 1 rest) with first | later
    · exact .inl first
    · rcases s.boundBeyond_attained cap 1 rest with tail | ⟨j, x, hx, at_⟩
      · exact .inr (.inl (later.trans (tail.trans (by rw [Nat.add_sub_cancel_left]))))
      · exact .inr (.inr ⟨j, x, hx, later.trans (at_.trans (s.boundAt_succ cap j x))⟩)
  · obtain ⟨least, most⟩ := State.planSpeed_range order previous e rest
    exact ⟨least, most, State.speedMin_le_effectiveCap order, State.effectiveCap_le⟩

/-- Settles O37. -/
theorem shaftRequests : Obligations.ShaftRequests := by
  intro s hs
  refine ⟨fun run halt carriage moving homing still => ?_, fun v0 v1 => ?_⟩
  · have accepted : exec (.shaftToTdc []) s = .next (s.toTdc.reply 0x32 .ok .empty) := by
      refine (exec_of_served (act := performShaftToTdc []) hs rfl).trans (congrArg Host.Outcome.next ?_)
      refine performShaftToTdc_eq.trans (State.checked_holds s.tdc_same ?_)
      simp [run, halt, carriage, moving, homing, still]
    rw [accepted]
    intro link
    refine ⟨fun there => ?_, fun away => ?_⟩
    · rw [State.toTdc_there there]; rfl
    · rw [State.toTdc_away away]; rfl
  · exact exec_of_served (act := performSetSpeed [v0, v1]) hs rfl

/-- Settles O49: each of these requests has the halt line among its checks. -/
theorem haltLineRefuses : Obligations.HaltLineRefuses := by
  refine ⟨fun s c hs halted request => ?_, fun s halted running stopping none_ => ?_, fun s off => ?_⟩
  · rcases request with ⟨b, rfl⟩ | rfl | ⟨n0, n1, rfl⟩ | ⟨n0, n1, rfl⟩ | rfl | ⟨x0, x1, y0, y1, rfl⟩ | rfl | ⟨b, rfl⟩
    · cases hd : designOf b with
      | none =>
        exact ⟨0x20, .badArgument, nofun, exec_malformed (act := performStart [b]) hs rfl
          (by simp only [performStart, State.oneDesign, hd])⟩
      | some d => exact exec_of_halted hs halted rfl (performStart_eq hd) (by simp [State.startChecks]) (by simp [State.startChecks])
    · exact exec_of_halted hs halted rfl performResume_eq (by simp [State.resumeChecks]) (by simp [State.resumeChecks])
    · exact exec_of_halted hs halted rfl (performBack_eq n0 n1) (by simp [State.walkChecks]) (by simp [State.walkChecks])
    · exact exec_of_halted hs halted rfl (performForward_eq n0 n1) (by simp [State.walkChecks]) (by simp [State.walkChecks])
    · exact exec_of_halted hs halted rfl performHome_eq (by simp [State.homeChecks]) (by simp [State.homeChecks])
    · exact exec_of_halted hs halted rfl (performFrameMove_eq x0 x1 y0 y1) (by simp [State.frameMoveChecks])
        (by simp [State.frameMoveChecks])
    · exact exec_of_halted hs halted rfl performShaftToTdc_eq (by simp [State.tdcChecks]) (by simp [State.tdcChecks])
    · cases hn : needleOf s.config b with
      | none =>
        exact ⟨0x33, .badArgument, nofun, exec_malformed (act := performSelectNeedle [b]) hs rfl
          (by simp only [performSelectNeedle, hn])⟩
      | some n => exact exec_of_halted hs halted rfl (performSelectNeedle_eq hn) (by simp [State.selectChecks]) (by simp [State.selectChecks])
  · have still : State.sewing { s with haltLine := false } = false := by
      simp [State.sewing, running, stopping]
    refine ⟨State.settle { s with haltLine := false }, ?_, State.settle_of_not_sewing _ still none_⟩
    change execHaltLineInactive s = _
    rw [execHaltLineInactive, if_pos halted]
  · change execHaltLineInactive s = _
    rw [execHaltLineInactive, if_neg (by simp [off])]

end Sys2Proof.Proofs
end

section
/-! PROOFS. The entries of one key, work done for each head in turn, and the THREAD_BREAK tests (R151, R176). -/

namespace Sys2Proof.Machine

variable {s t : State} {k k' : Key}

/-! ## The entries of one key -/

/-- The entries of a key in a table; more than one only where the table is not sound. -/
def entriesOf (k : Key) (cs : List Condition) : List Condition := cs.filter fun c => decide (c.key = k)

/-- The entries of a key. -/
def State.entries (s : State) (k : Key) : List Condition := entriesOf k s.conditions

theorem State.condition?_eq (s : State) (k : Key) : s.condition? k = (s.entries k).head? := by
  simp [State.entries, entriesOf, State.condition?]

theorem State.causeOpen_eq_any (s : State) (k : Key) : s.causeOpen k = (s.entries k).any Condition.causeOpen := by
  rw [State.entries, entriesOf, List.any_filter]
  rfl

theorem entriesOf_cons (k : Key) (c : Condition) (cs : List Condition) :
    entriesOf k (c :: cs) = if c.key = k then c :: entriesOf k cs else entriesOf k cs := by
  by_cases h : c.key = k <;> simp [entriesOf, h]

theorem entriesOf_openIn (n : Option Needle) (d : Detail) (o : Nat) (p : Option Position) (cs : List Condition) :
    entriesOf k (openIn k n d o p cs) = openIn k n d o p (entriesOf k cs) := by
  induction cs with
  | nil => simp [entriesOf, openIn]
  | cons c cs ih =>
    rw [openIn, entriesOf_cons]
    split
    · rename_i h; rw [openIn, if_pos h, entriesOf_cons, if_pos h]
    · rename_i h; rw [entriesOf_cons, if_neg h, ih]

theorem entriesOf_openIn_ne (h : k' ≠ k) (n : Option Needle) (d : Detail) (o : Nat) (p : Option Position)
    (cs : List Condition) : entriesOf k' (openIn k n d o p cs) = entriesOf k' cs := by
  induction cs with
  | nil => simp [entriesOf, openIn, h.symm]
  | cons c cs ih =>
    rw [openIn]
    split
    · rename_i hc; simp [entriesOf_cons, hc, h.symm]
    · rw [entriesOf_cons, entriesOf_cons, ih]

theorem entriesOf_clearIn (cs : List Condition) : entriesOf k (clearIn k cs) = clearIn k (entriesOf k cs) := by
  induction cs with
  | nil => rfl
  | cons c cs ih =>
    rw [clearIn, entriesOf_cons]
    by_cases h : c.key = k
    · rw [if_pos h, if_pos h, clearIn, if_pos h]
      cases c.state <;> simp [entriesOf_cons, h]
    · rw [if_neg h, if_neg h, entriesOf_cons, if_neg h, ih]

theorem entriesOf_clearIn_ne (h : k' ≠ k) (cs : List Condition) : entriesOf k' (clearIn k cs) = entriesOf k' cs := by
  induction cs with
  | nil => rfl
  | cons c cs ih =>
    rw [clearIn]
    by_cases hc : c.key = k
    · rw [if_pos hc]
      cases c.state <;> simp [entriesOf_cons, hc, h.symm]
    · rw [if_neg hc, entriesOf_cons, entriesOf_cons, ih]

theorem State.entries_openCause (k : Key) (n : Option Needle) (d : Detail) (p : Option Position) (s : State) :
    (s.openCause k n d p).entries k = openIn k n d s.run.ordinal p (s.entries k) := entriesOf_openIn ..

theorem State.entries_openCause_ne (h : k' ≠ k) (n : Option Needle) (d : Detail) (p : Option Position) (s : State) :
    (s.openCause k n d p).entries k' = s.entries k' := entriesOf_openIn_ne h ..

/-- What clearing a cause makes of its key's entries. -/
def clearEntries (k : Key) (cs : List Condition) : List Condition :=
  if cs.any Condition.causeOpen then clearIn k cs else cs

theorem State.entries_clearCause (k : Key) (s : State) : (s.clearCause k).entries k = clearEntries k (s.entries k) := by
  rw [State.clearCause, clearEntries, ← State.causeOpen_eq_any]
  split
  · exact entriesOf_clearIn _
  · rfl

theorem State.entries_clearCause_ne (h : k' ≠ k) (s : State) : (s.clearCause k).entries k' = s.entries k' := by
  unfold State.clearCause
  split
  · exact entriesOf_clearIn_ne h _
  · rfl

theorem State.clearCause_of_closed (h : s.causeOpen k = false) : s.clearCause k = s := by
  simp [State.clearCause, h]

/-- A cause that opens has the values of its opening (R179, R180). -/
theorem State.condition?_openCause (k : Key) (n : Option Needle) (d : Detail) (p : Option Position) (s : State) :
    ∃ c, (s.openCause k n d p).condition? k = some c ∧ c.state = .opened ∧ c.detail = d ∧ c.needle = n ∧
      c.ordinal = s.run.ordinal ∧ c.position = p := by
  rw [State.condition?_eq, State.entries_openCause]
  cases h : s.entries k with
  | nil => exact ⟨_, rfl, rfl, rfl, rfl, rfl, rfl⟩
  | cons x xs =>
    have hx : x.key = k := by
      have mem : x ∈ s.entries k := by simp [h]
      simpa [State.entries, entriesOf] using (List.mem_filter.1 mem).2
    rw [openIn, if_pos hx]
    exact ⟨_, rfl, rfl, rfl, rfl, rfl, rfl⟩

/-! ## Work done for each of a list in turn -/

/-- A relation that each step of a fold has, the fold has. -/
theorem foldl_related {α β : Type} {R : β → β → Prop} {f : β → α → β} (refl : ∀ b, R b b)
    (trans : ∀ {a b c}, R a b → R b c → R a c) (step : ∀ b a, R b (f b a)) (xs : List α) (b : β) :
    R b (xs.foldl f b) := by
  induction xs generalizing b with
  | nil => exact refl b
  | cons x xs ih => exact trans (step b x) (ih (f b x))

/-- Work done for each of a list in turn: where the work for one looks at that one's view and at what all of it
keeps, and leaves every other view, it does for each what it would do for that one alone. -/
theorem foldl_each {α β γ δ : Type} {f : β → α → β} (view : α → β → δ) (common : β → γ)
    (kept : ∀ b a, common (f b a) = common b) (other : ∀ b a a', a' ≠ a → view a' (f b a) = view a' b)
    (own : ∀ b b' a, common b = common b' → view a b = view a b' → view a (f b a) = view a (f b' a))
    {xs : List α} (nodup : xs.Nodup) (b : β) (a : α) :
    (a ∈ xs → view a (xs.foldl f b) = view a (f b a)) ∧ (a ∉ xs → view a (xs.foldl f b) = view a b) := by
  induction xs generalizing b with
  | nil => exact ⟨nofun, fun _ => rfl⟩
  | cons x xs ih =>
    obtain ⟨fresh, nodup⟩ := List.nodup_cons.1 nodup
    obtain ⟨inside, outside⟩ := ih nodup (f b x)
    rw [List.foldl_cons]
    refine ⟨fun mem => ?_, fun out => ?_⟩
    · by_cases h : a = x
      · rw [outside (h ▸ fresh), h]
      · have later : a ∈ xs := (List.mem_cons.1 mem).resolve_left h
        rw [inside later]
        exact own _ _ _ (kept b x) (other b x a h)
    · obtain ⟨apart, out⟩ := not_or.1 (mt List.mem_cons.2 out)
      rw [outside out, other b x a apart]

theorem allHeads_nodup : allHeads.Nodup := by decide

theorem mem_allHeads (h : Head) : h ∈ allHeads := by revert h; decide

/-- Work done for each head in turn does for each what it would do for that one alone. -/
theorem foldl_heads {γ δ : Type} {f : State → Head → State} (view : Head → State → δ) (common : State → γ)
    (kept : ∀ s h, common (f s h) = common s) (other : ∀ s h g, g ≠ h → view g (f s h) = view g s)
    (own : ∀ s t h, common s = common t → view h s = view h t → view h (f s h) = view h (f t h))
    (s : State) (h : Head) : view h (allHeads.foldl f s) = view h (f s h) :=
  (foldl_each view common kept other own allHeads_nodup s h).1 (mem_allHeads h)

/-! ## The THREAD_BREAK tests -/

/-- The test keeps the causes of the heads that are BROKEN or have a BROKEN needle state (R151). -/
theorem State.entries_testThreadBreaks (s : State) (g : Head) : s.testThreadBreaks.entries (.threadBreak g) =
    if (s.heads.get g).state.isBroken || s.anyNeedleBroken g then s.entries (.threadBreak g)
    else clearEntries (.threadBreak g) (s.entries (.threadBreak g)) := by
  unfold State.testThreadBreaks
  refine (foldl_heads (fun g s => s.entries (.threadBreak g)) (fun s => (s.heads, s.needles)) ?_ ?_ ?_ s g).trans ?_
  · intro s h
    split <;> simp
  · intro s h g apart
    split
    · rfl
    · exact State.entries_clearCause_ne (by simp [apart]) s
  · intro s t h same entries
    obtain ⟨heads, needles⟩ := Prod.mk.inj same
    have broken : s.anyNeedleBroken h = t.anyNeedleBroken h := by
      unfold State.anyNeedleBroken State.needleState
      rw [needles]
    change s.entries _ = t.entries _ at entries
    rw [heads, broken]
    split
    · exact entries
    · rw [State.entries_clearCause, State.entries_clearCause, entries]
  · split
    · rfl
    · exact State.entries_clearCause _ _

theorem State.entries_testThreadBreaks_ne (s : State) (h : ∀ g, k ≠ .threadBreak g) :
    s.testThreadBreaks.entries k = s.entries k := by
  unfold State.testThreadBreaks
  refine foldl_keeps (fun t : State => t.entries k) _ (fun t g => ?_) allHeads s
  split
  · rfl
  · exact State.entries_clearCause_ne (h g) t

/-- In a sound table a cause that is cleared is not open. -/
theorem clearEntries_closed (sound : s.conditionsSound) (k : Key) :
    (clearEntries k (s.entries k)).any Condition.causeOpen = false := by
  rw [← State.entries_clearCause, ← State.causeOpen_eq_any]
  exact State.clearCause_causeOpen sound k

theorem State.causeOpen_testThreadBreaks (sound : s.conditionsSound) (g : Head) :
    s.testThreadBreaks.causeOpen (.threadBreak g) =
      (s.causeOpen (.threadBreak g) && ((s.heads.get g).state.isBroken || s.anyNeedleBroken g)) := by
  rw [State.causeOpen_eq_any, State.entries_testThreadBreaks]
  split
  · rename_i broken; rw [broken, Bool.and_true, State.causeOpen_eq_any]
  · rename_i whole; rw [clearEntries_closed sound, Bool.eq_false_iff.2 whole, Bool.and_false]

end Sys2Proof.Machine
end

section
/-! PROOFS. The requests on the needle table and on the heads (R113 to R116, R134, R139, R149 to R151). -/

namespace Sys2Proof.Machine

variable {s : State}

/-! ## Requests with one check -/

theorem State.checked_single {code : Byte} {act : State → State} {st : Status} {b : Bool} :
    s.checked code [(b, st)] act = if b then act s else s.reply code st .empty := by
  cases b <;> rfl

theorem State.causeOpen_reply (s : State) (code : Byte) (st : Status) (p : Payload) (k : Key) :
    (s.reply code st p).causeOpen k = s.causeOpen k := rfl

/-! ## ASSIGN, SPOOL and MEND -/

section Needle

variable {b : Byte} {n : Needle} {h : Head} {v : NeedleState}

theorem performAssign_eq (hn : needleOf s.config b = some n) (c0 c1 m0 m1 v0 v1 : Byte) :
    performAssign [b, c0, c1, m0, m1, v0, v1] s =
      if s.needleInUse n then s.reply 0x40 .inUse .empty
      else (s.setThread n (some ⟨half c0 c1, half m0 m1, s.config.clampSpeed (half v0 v1).toNat⟩)).reply 0x40 .ok
        (.speed (s.config.clampSpeed (half v0 v1).toNat)) := by
  simp only [performAssign, hn, State.assignFor]
  cases hu : s.needleInUse n <;> rfl

theorem State.setNeedleState_same (same : s.needleState n h = v) : s.setNeedleState n h v = s := if_pos same

/-- A per-head needle state written. -/
def State.withNeedleState (n : Needle) (h : Head) (v : NeedleState) (s : State) : State :=
  { s with needles := s.needles.set n { s.needles.get n with perHead := (s.needles.get n).perHead.set h v } }

theorem State.setNeedleState_other (other : s.needleState n h ≠ v) :
    s.setNeedleState n h v = (s.withNeedleState n h v).testThreadBreaks := if_neg other

/-- Writing what stands already changes no table. -/
theorem Table.set_get {α : Type} {n : Nat} (t : Table n α) (i : Fin n) : t.set i (t.get i) = t := by
  refine Table.ext_get fun j => ?_
  rw [Table.get_set]
  split
  · rename_i same; rw [same]
  · rfl

theorem spoolStateOf_eq {vb : Byte} (h : vb = 0 ∧ v = .ready ∨ vb = 1 ∧ v = .empty) : spoolStateOf vb = some v := by
  rcases h with ⟨rfl, rfl⟩ | ⟨rfl, rfl⟩ <;> rfl

theorem State.needsMend_iff (s : State) (n : Needle) (h : Head) (v : NeedleState) : s.needsMend n h v = true ↔
    v = .ready ∧ s.run.needle = some n ∧ (s.needles.get n).perHead.get h = .broken := by
  rw [State.needsMend, Bool.and_eq_true, Bool.and_eq_true, decide_eq_true_iff, decide_eq_true_iff, decide_eq_true_iff,
    and_assoc]
  rfl

theorem performSpool_eq {hb nb vb : Byte} (hh : headOf s.config hb = some h) (hn : needleOf s.config nb = some n)
    (hv : spoolStateOf vb = some v) : performSpool [hb, nb, vb] s =
      if s.needsMend n h v then s.reply 0x42 .wrongState .empty
      else (s.setNeedleState n h v).reply 0x42 .ok (.needleState v) := by
  simp only [performSpool, hh, hn, hv, State.spoolFor]
  cases s.needsMend n h v <;> rfl

theorem performMend_eq (hh : headOf s.config b = some h) : performMend [b] s = s.mendFor h := by
  simp only [performMend, hh]

theorem State.mendFor_of_needle (current : s.run.needle = some n) : s.mendFor h =
    if (s.heads.get h).meter < s.config.bobbinCapacity * 100 then
      (s.setNeedleState n h .ready).reply 0x43 .ok (.headState (s.heads.get h).state)
    else s.reply 0x43 .bobbinSpent .empty := by
  simp only [State.mendFor, current]
  refine State.checked_single.trans ?_
  by_cases room : (s.heads.get h).meter < s.config.bobbinSu
  · exact (if_pos (decide_eq_true room)).trans (if_pos room).symm
  · exact (if_neg (mt of_decide_eq_true room)).trans (if_neg room).symm

end Needle

/-! ## HEAD_ENABLE, BOBBIN_CHANGED and THREAD_PULSE -/

/-- What HEAD_ENABLE makes of a head (R134). -/
def HeadRecord.enableAs (bit : Bool) (r : HeadRecord) : HeadRecord :=
  if bit then (if r.state = .off then { r with state := .idle } else r)
  else if r.state = .off then r
  else { r with state := .off, balance := 0, grace := 0, looseQuiet := none, latch := false }

theorem State.enableHead_heads (mask : Half) (h : Head) (s : State) : (State.enableHead mask h s).heads =
    s.heads.set h ((s.heads.get h).enableAs (mask.getLsbD h.val)) := by
  unfold State.enableHead HeadRecord.enableAs
  dsimp only
  split <;> split <;> simp [State.setHead, Table.set_get, HeadRecord.toOff]

theorem State.enableHead_entries_ne {k : Key} (mask : Half) {h : Head} (apart : k ≠ .threadLoose h) (s : State) :
    (State.enableHead mask h s).entries k = s.entries k := by
  unfold State.enableHead
  dsimp only
  split <;> split
  · rfl
  · rfl
  · rfl
  · exact State.entries_clearCause_ne apart _

/-- A head that becomes OFF has its THREAD_LOOSE cause cleared. -/
theorem State.enableHead_entries (mask : Half) (h : Head) (s : State) :
    (State.enableHead mask h s).entries (.threadLoose h) =
      if mask.getLsbD h.val = false ∧ (s.heads.get h).state ≠ .off then
        clearEntries (.threadLoose h) (s.entries (.threadLoose h))
      else s.entries (.threadLoose h) := by
  unfold State.enableHead
  dsimp only
  split <;> split
  · rename_i on off; rw [if_neg (by simp [on])]; rfl
  · rename_i on off; rw [if_neg (by simp [on])]
  · rename_i on off; rw [if_neg (by simp [off])]
  · rename_i on off; rw [if_pos ⟨by simpa using on, off⟩]; exact State.entries_clearCause _ _

/-- Only the heads and the condition table differ. -/
def State.headsApart (s t : State) : Prop :=
  t = { s with heads := t.heads, conditions := t.conditions, changes := t.changes } ∧
    (s.conditionsSound → t.conditionsSound)

theorem State.headsApart_refl (s : State) : s.headsApart s := ⟨rfl, id⟩

theorem State.headsApart_trans {s t u : State} (h1 : s.headsApart t) (h2 : t.headsApart u) : s.headsApart u := by
  obtain ⟨eq1, sound1⟩ := h1
  obtain ⟨eq2, sound2⟩ := h2
  refine ⟨?_, sound2 ∘ sound1⟩
  rw [eq2, eq1]

theorem State.headsApart_enableHead (mask : Half) (h : Head) (s : State) : s.headsApart (State.enableHead mask h s) := by
  unfold State.enableHead
  dsimp only
  split <;> split
  · exact ⟨rfl, id⟩
  · exact ⟨rfl, id⟩
  · exact ⟨rfl, id⟩
  · refine ⟨?_, fun sound => State.conditionsSound_clearCause (s := s.setHead h _) sound _⟩
    rw [State.clearCause_eq]
    rfl

/-- The heads by HEAD_ENABLE, before the THREAD_BREAK tests. -/
def State.enabledHeads (mask : Half) (s : State) : State :=
  allHeads.foldl (fun t h => State.enableHead mask h t) { s with enable := mask }

theorem State.setEnable_eq (mask : Half) (s : State) : s.setEnable mask = (s.enabledHeads mask).testThreadBreaks := rfl

theorem State.headsApart_enabledHeads (mask : Half) (s : State) :
    State.headsApart { s with enable := mask } (s.enabledHeads mask) :=
  foldl_related State.headsApart_refl State.headsApart_trans (fun t h => State.headsApart_enableHead mask h t) _ _

theorem State.enabledHeads_each (mask : Half) (s : State) (h : Head) :
    (s.enabledHeads mask).heads.get h = (s.heads.get h).enableAs (mask.getLsbD h.val) ∧
    (s.enabledHeads mask).entries (.threadLoose h) = (State.enableHead mask h s).entries (.threadLoose h) := by
  have each := foldl_heads (f := fun t h => State.enableHead mask h t)
    (fun h t => (t.heads.get h, t.entries (.threadLoose h))) (fun _ => ()) (fun _ _ => rfl) ?_ ?_
    { s with enable := mask } h
  · obtain ⟨heads, entries⟩ := Prod.mk.inj each
    refine ⟨heads.trans ?_, entries.trans ?_⟩
    · rw [State.enableHead_heads, Table.get_set_self]
    · rw [State.enableHead_entries, State.enableHead_entries]; rfl
  · intro t h g apart
    rw [State.enableHead_heads, Table.get_set_ne _ _ apart.symm, State.enableHead_entries_ne mask (by simp [apart])]
  · intro t u h _ same
    obtain ⟨heads, entries⟩ := Prod.mk.inj same
    rw [State.enableHead_heads, State.enableHead_heads, Table.get_set_self, Table.get_set_self, State.enableHead_entries,
      State.enableHead_entries, heads, entries]

theorem State.enabledHeads_entries_ne {k : Key} (mask : Half) (s : State) (h : ∀ g, k ≠ .threadLoose g) :
    (s.enabledHeads mask).entries k = s.entries k :=
  foldl_keeps (fun t : State => t.entries k) (fun t g => State.enableHead mask g t)
    (fun t g => State.enableHead_entries_ne mask (h g) t) allHeads { s with enable := mask }

theorem performBobbinChanged_eq {b : Byte} {h : Head} (hh : headOf s.config b = some h) :
    performBobbinChanged [b] s = (s.changeBobbin h).reply 0x45 .ok .empty := by
  simp only [performBobbinChanged, hh]

end Sys2Proof.Machine

namespace Sys2Proof.Proofs
open Sys2Proof.Machine

/-- Settles O39. -/
theorem needleTableRequests : Obligations.NeedleTableRequests := by
  intro s hs
  refine ⟨fun b n c0 c1 m0 m1 v0 v1 hn => ⟨fun free => ?_, fun run current => ?_⟩, ?_⟩
  · refine (exec_of_served (act := performAssign _) hs rfl).trans (congrArg Host.Outcome.next ?_)
    rw [performAssign_eq hn, if_neg fun used => ?_]
    · rfl
    · obtain ⟨run, current⟩ := State.needleInUse_iff.1 used
      exact free.elim run (absurd current)
  · refine (exec_of_served (act := performAssign _) hs rfl).trans (congrArg Host.Outcome.next ?_)
    rw [performAssign_eq hn, if_pos (State.needleInUse_iff.2 ⟨run, current⟩)]
  intro changed
  have sets (n : Needle) (h : Head) (v : NeedleState) (code : Byte) (payload : Payload) :
      changed n h v ⟨code, .ok, payload⟩ ((s.setNeedleState n h v).reply code .ok payload) := by
    by_cases same : s.needleState n h = v
    · rw [State.setNeedleState_same same]
      refine ⟨?_, fun _ => ⟨rfl, rfl⟩, fun other => absurd same other⟩
      have stands : (s.needles.get n).perHead.set h v = (s.needles.get n).perHead := by
        rw [← same]; exact Table.set_get _ _
      change _ = { s with needles := s.needles.set n { s.needles.get n with
        perHead := (s.needles.get n).perHead.set h v }, link := _ }
      rw [stands, Table.set_get]
      rfl
    · rw [State.setNeedleState_other same]
      refine ⟨?_, fun stands => absurd stands same, fun _ sound g => ?_⟩
      · have tests := (s.withNeedleState n h v).testThreadBreaks_eq
        generalize State.testThreadBreaks _ = t at tests ⊢
        rw [tests]
        rfl
      · rw [State.causeOpen_reply, State.causeOpen_testThreadBreaks (s := s.withNeedleState n h v) sound]
        unfold State.anyNeedleBroken State.needleState
        rw [State.reply_needles, State.testThreadBreaks_needles]
        rfl
  refine ⟨fun hb nb vb h n v hh hn hv => ⟨fun free => ?_, fun ready current broken => ?_⟩,
    fun hb h hh => ⟨fun n current room => ?_, fun n current spent => ?_, fun none_ => ?_⟩⟩
  · refine ⟨_, exec_of_served (act := performSpool _) hs rfl, ?_⟩
    rw [performSpool_eq hh hn (spoolStateOf_eq hv), if_neg (mt (s.needsMend_iff n h v).1 free)]
    exact sets ..
  · refine (exec_of_served (act := performSpool _) hs rfl).trans (congrArg Host.Outcome.next ?_)
    rw [performSpool_eq hh hn (spoolStateOf_eq hv), if_pos ((s.needsMend_iff n h v).2 ⟨ready, current, broken⟩)]
  · refine ⟨_, exec_of_served (act := performMend _) hs rfl, ?_⟩
    rw [performMend_eq hh, State.mendFor_of_needle current, if_pos room]
    exact sets ..
  · refine (exec_of_served (act := performMend _) hs rfl).trans (congrArg Host.Outcome.next ?_)
    rw [performMend_eq hh, State.mendFor_of_needle current, if_neg (Nat.not_lt.2 spent)]
  · refine (exec_of_served (act := performMend _) hs rfl).trans (congrArg Host.Outcome.next ?_)
    rw [performMend_eq hh]
    simp only [State.mendFor, none_]
    rfl

/-- Settles O43. -/
theorem headRequests : Obligations.HeadRequests := by
  intro s
  refine ⟨fun m0 m1 hs run pending within => ?_, fun b h hs hh => ?_, fun h => ⟨fun sews => ?_, fun other => ?_⟩⟩
  · have accepted : exec (.headEnable [m0, m1]) s =
        .next ((s.setEnable (half m0 m1)).reply 0x44 .ok (.mask (half m0 m1))) := by
      refine (exec_of_served (act := performHeadEnable _) hs rfl).trans (congrArg Host.Outcome.next ?_)
      refine (performHeadEnable_eq m0 m1).trans (State.checked_holds (s.headEnable_same _) ?_)
      simpa [run, pending] using within
    refine ⟨_, accepted, ?_, fun h => ?_, fun sound h bit on => ?_, fun sound h => ?_⟩
    all_goals rw [State.setEnable_eq]
    · obtain ⟨apart, -⟩ := s.headsApart_enabledHeads (half m0 m1)
      have tests := (s.enabledHeads (half m0 m1)).testThreadBreaks_eq
      generalize (s.enabledHeads (half m0 m1)).testThreadBreaks = u at tests ⊢
      generalize s.enabledHeads (half m0 m1) = t at apart tests
      rw [tests, apart]
      rfl
    · have each := (s.enabledHeads_each (half m0 m1) h).1
      simp only [State.reply_heads, State.testThreadBreaks_heads, each]
      rfl
    · have each := (s.enabledHeads_each (half m0 m1) h).2
      rw [State.causeOpen_reply, State.causeOpen_eq_any, State.entries_testThreadBreaks_ne _ (by simp), each, State.enableHead_entries, if_pos ⟨bit, on⟩]
      exact clearEntries_closed sound _
    · obtain ⟨apart, keeps⟩ := s.headsApart_enabledHeads (half m0 m1)
      have opened : (s.enabledHeads (half m0 m1)).causeOpen (.threadBreak h) = s.causeOpen (.threadBreak h) := by
        rw [State.causeOpen_eq_any, State.causeOpen_eq_any, State.enabledHeads_entries_ne _ _ (by simp)]
      have broken : (s.enabledHeads (half m0 m1)).anyNeedleBroken h = s.anyNeedleBroken h := by
        rw [apart]; rfl
      rw [State.causeOpen_reply, State.causeOpen_testThreadBreaks (keeps sound), opened, broken, State.reply_heads,
        State.testThreadBreaks_heads]
  · refine ⟨_, (exec_of_served (act := performBobbinChanged _) hs rfl).trans
      (congrArg Host.Outcome.next (performBobbinChanged_eq hh)), ?_, fun sound => ?_, fun closed => ?_⟩
    · rw [State.changeBobbin, State.clearCause_eq]; rfl
    · exact State.clearCause_causeOpen (s := s.setHead h _) sound _
    · rw [State.changeBobbin, State.clearCause_of_closed (s := s.setHead h { s.heads.get h with meter := 0 }) closed]
      exact ⟨rfl, rfl⟩
  · change execThreadPulse h s = _
    exact if_pos sews
  · change execThreadPulse h s = _
    exact if_neg other

end Sys2Proof.Proofs
end

section
/-! PROOFS. The placement of heads at START, RESUME and a colour change, and rejoining (R146 to R148). -/

namespace Sys2Proof.Machine

/-! ## A head that drops out -/

/-- Dropping out writes the head's record and the condition table. -/
theorem State.openThreadBreak_setHead_eq (s : State) (h : Head) (r : HeadRecord) (cause : BreakCause)
    (p : Option Position) : (s.setHead h r).openThreadBreak h cause p =
      { s with
        heads := s.heads.set h r
        conditions := ((s.setHead h r).openThreadBreak h cause p).conditions
        changes := ((s.setHead h r).openThreadBreak h cause p).changes } := rfl

/-- Its THREAD_BREAK cause carries the current needle (R151). -/
theorem State.condition?_openThreadBreak (s : State) (h : Head) (cause : BreakCause) (p : Option Position) :
    ∃ c, (s.openThreadBreak h cause p).condition? (.threadBreak h) = some c ∧ c.state = .opened ∧
      c.detail = .threadBreak cause ∧ c.needle = s.run.needle ∧ c.ordinal = s.run.ordinal ∧ c.position = p :=
  State.condition?_openCause ..

section Place

variable {s : State} {h : Head} {position : Option Position} {m : Nat}

/-! ## R147, row by row -/

theorem State.placeHead_ready_broken (ready : s.readyNow h = true) (state : (s.heads.get h).state = .broken m) :
    s.placeHead position h = s.setHead h
      (if m ≤ s.run.ordinal + 1 then (s.heads.get h).toSewing else (s.heads.get h).toWaiting m) := by
  simp only [State.placeHead, ready, state]
  rfl

theorem State.placeHead_ready_waiting (ready : s.readyNow h = true) (state : (s.heads.get h).state = .waiting m) :
    s.placeHead position h = s.setHead h
      (if m ≤ s.run.ordinal + 1 then (s.heads.get h).toSewing else (s.heads.get h).toWaiting m) := by
  simp only [State.placeHead, ready, state]
  rfl

theorem State.placeHead_ready_sound (ready : s.readyNow h = true)
    (state : (s.heads.get h).state = .idle ∨ (s.heads.get h).state = .sewing) :
    s.placeHead position h = s.setHead h
      (if s.run.ordinal < s.run.frontier then (s.heads.get h).toWaiting (satOrdinal (s.run.frontier + 1))
       else (s.heads.get h).toSewing) := by
  rcases state with state | state <;> simp only [State.placeHead, ready, state] <;> rfl

theorem State.placeHead_unready_broken (unready : s.readyNow h = false) (state : (s.heads.get h).state = .broken m) :
    s.placeHead position h = s.setHead h ((s.heads.get h).toBroken m) := by
  simp only [State.placeHead, unready, state]
  rfl

theorem State.placeHead_unready_waiting (unready : s.readyNow h = false) (state : (s.heads.get h).state = .waiting m) :
    s.placeHead position h =
      (s.setHead h ((s.heads.get h).toBroken m)).openThreadBreak h .needleNotReady position := by
  simp only [State.placeHead, unready, state]
  rfl

theorem State.placeHead_unready_sound (unready : s.readyNow h = false)
    (state : (s.heads.get h).state = .idle ∨ (s.heads.get h).state = .sewing) :
    s.placeHead position h = (s.setHead h ((s.heads.get h).toBroken (satOrdinal (s.run.frontier + 1)))).openThreadBreak h
      .needleNotReady position := by
  rcases state with state | state <;> simp only [State.placeHead, unready, state] <;> rfl

theorem State.placeHead_off (state : (s.heads.get h).state = .off) : s.placeHead position h = s := by
  cases ready : s.readyNow h <;> simp only [State.placeHead, ready, state] <;> rfl

/-! ## R146, row by row -/

theorem State.colourHead_ready (ready : s.readyNow h = true)
    (state : ((∃ m, (s.heads.get h).state = .waiting m) ∨ (s.heads.get h).state = .sewing) ∨
      ∃ m, (s.heads.get h).state = .broken m) :
    s.colourHead position h = s.setHead h (s.heads.get h).toSewing := by
  rcases state with (⟨m, state⟩ | state) | ⟨m, state⟩ <;> simp only [State.colourHead, ready, state] <;> rfl

/-- A sewing head that drops out at a colour change, before the stop that the policy asks for. -/
def State.colourDropped (position : Option Position) (h : Head) (s : State) : State :=
  (s.setHead h ((s.heads.get h).toBroken (satOrdinal (s.run.blockStart + 1)))).openThreadBreak h .needleNotReady position

theorem State.colourHead_unready_sews (unready : s.readyNow h = false)
    (state : (∃ m, (s.heads.get h).state = .waiting m) ∨ (s.heads.get h).state = .sewing) :
    s.colourHead position h = if s.config.breakPolicy = .stop then (s.colourDropped position h).requestStop .breakStop
      else s.colourDropped position h := by
  rcases state with ⟨m, state⟩ | state <;> simp only [State.colourHead, unready, state] <;> rfl

theorem State.colourHead_unready_broken (unready : s.readyNow h = false) (state : (s.heads.get h).state = .broken m) :
    s.colourHead position h = (s.setHead h { s.heads.get h with
      state := .broken (satOrdinal (s.run.blockStart + 1)) }).openThreadBreak h .needleNotReady position := by
  simp only [State.colourHead, unready, state]
  rfl

theorem State.colourHead_off (state : (s.heads.get h).state = .off) : s.colourHead position h = s := by
  cases ready : s.readyNow h <;> simp only [State.colourHead, ready, state] <;> rfl

end Place

/-- A stop requested while a colour change is made is held pending, unless one is (R104). -/
theorem State.requestStop_of_changing {s : State} (changing : s.run.state = .changing) (reason : StopReason) :
    s.requestStop reason = if s.run.pendingStop then s
      else { s with run := { s.run with pendingStop := true, reason := reason } } := by
  simp only [State.requestStop, changing]

end Sys2Proof.Machine

namespace Sys2Proof.Proofs
open Sys2Proof.Machine

/-- Settles O45, a row of the tables at a time. -/
theorem placementTable : Obligations.PlacementTable := by
  refine ⟨fun s h position => ?_, fun r q => ?_, fun s h position changing => ?_⟩
  · intro r p f beyond t sews waits drops
    have placed {m : Nat} (put : t = s.setHead h (if m ≤ p + 1 then r.toSewing else r.toWaiting m)) :
        (m ≤ p + 1 → sews) ∧ (p + 1 < m → waits m) :=
      ⟨fun due => put.trans (by rw [if_pos due]; rfl), fun early => put.trans (by rw [if_neg (by omega)]; rfl)⟩
    have dropped {m : Nat} (put : t = (s.setHead h (r.toBroken m)).openThreadBreak h .needleNotReady position) :
        drops m := by
      clear_value t
      subst put
      exact ⟨State.openThreadBreak_setHead_eq .., State.condition?_openThreadBreak ..⟩
    refine ⟨fun ready => ⟨fun m state => placed (State.placeHead_ready_broken ready state),
        fun m state => placed (State.placeHead_ready_waiting ready state), fun state => ?_⟩,
      fun unready => ⟨fun m state => ?_, fun m state => dropped (State.placeHead_unready_waiting unready state),
        fun state => dropped (State.placeHead_unready_sound unready state)⟩⟩
    · have put : t = _ := State.placeHead_ready_sound ready state
      exact ⟨fun behind => put.trans (by rw [if_pos behind]; rfl),
        fun level => put.trans (by rw [if_neg (Nat.not_lt.2 level)]; rfl)⟩
    · refine (State.placeHead_unready_broken unready state).trans ?_
      rw [HeadRecord.toBroken, ← state]
      rfl
  · refine ⟨fun m state due => ?_, fun early => ?_⟩
    · simp only [HeadRecord.rejoin, state, if_pos due]
      rfl
    · cases state : r.state with
      | waiting m => simp only [HeadRecord.rejoin, state, if_neg (Nat.not_le.2 (early m state))]
      | off | idle | sewing | broken m => simp only [HeadRecord.rejoin, state]
  · intro r t mend opened drops sews
    have drop {x : HeadRecord} (put : t = (s.setHead h x).openThreadBreak h .needleNotReady position) :
        drops x s.run := by
      clear_value t
      subst put
      exact ⟨State.condition?_openThreadBreak .., State.openThreadBreak_setHead_eq ..⟩
    refine ⟨fun ready state => State.colourHead_ready ready state, fun unready =>
      ⟨fun state policy free => ?_, fun state goesOn => ?_, fun m state => ?_⟩, State.colourHead_off⟩
    · have put : t = { s.colourDropped position h with
          run := { s.run with pendingStop := true, reason := .breakStop } } := by
        refine (State.colourHead_unready_sews unready state).trans ?_
        rw [if_pos policy, State.requestStop_of_changing (s := s.colourDropped position h) changing]
        exact if_neg (Bool.eq_false_iff.1 free)
      clear_value t
      subst put
      exact ⟨State.condition?_openThreadBreak .., rfl⟩
    · refine drop ((State.colourHead_unready_sews unready state).trans ?_)
      rcases goesOn with policy | pending
      · rw [if_neg (by rw [policy]; nofun)]; rfl
      · rw [State.requestStop_of_changing (s := s.colourDropped position h) changing]
        exact (congrArg (ite _ · _) (if_pos pending)).trans (ite_self _)
    · exact drop (State.colourHead_unready_broken unready state)

end Sys2Proof.Proofs
end

section
/-! PROOFS. What the head monitor's work on one head changes, what it looks at, and when it asks for a stop (R138 to
R144). -/

namespace Sys2Proof.Machine

variable {s t u : State} {h : Head} {k : RevKind} {cause : BreakCause}

/-! ## Work on one head -/

/-- `t` differs from `s` by work on head `h`: in its record, its needle states, its conditions, and the stop that the
work may ask for. -/
structure State.onHead (h : Head) (s t : State) : Prop where
  frame : t = { s with
    heads := t.heads, needles := t.needles, conditions := t.conditions, changes := t.changes
    run := { s.run with state := t.run.state, pendingStop := t.run.pendingStop, reason := t.run.reason }
    shaft := { s.shaft with stopReq := t.shaft.stopReq } }
  threads : ∀ n, (t.needles.get n).thread = (s.needles.get n).thread
  records : ∀ g, g ≠ h → t.heads.get g = s.heads.get g
  states : ∀ g, g ≠ h → ∀ n, (t.needles.get n).perHead.get g = (s.needles.get n).perHead.get g
  entries : ∀ key, key ≠ .threadBreak h → key ≠ .threadLoose h → key ≠ .bobbinLow h → t.entries key = s.entries key

namespace State.onHead

theorem refl (h : Head) (s : State) : s.onHead h s :=
  ⟨rfl, fun _ => rfl, fun _ _ => rfl, fun _ _ _ => rfl, fun _ _ _ _ => rfl⟩

theorem trans (a : s.onHead h t) (b : t.onHead h u) : s.onHead h u where
  frame := by
    have eq := b.frame
    rw [a.frame] at eq
    exact eq
  threads n := (b.threads n).trans (a.threads n)
  records g apart := (b.records g apart).trans (a.records g apart)
  states g apart n := (b.states g apart n).trans (a.states g apart n)
  entries key b1 b2 b3 := (b.entries key b1 b2 b3).trans (a.entries key b1 b2 b3)

theorem setHead (r : HeadRecord) (s : State) : s.onHead h (s.setHead h r) :=
  ⟨rfl, fun _ => rfl, fun _ apart => Table.get_set_ne _ _ apart.symm, fun _ _ _ => rfl, fun _ _ _ _ => rfl⟩

theorem openCause {key : Key} (own : key = .threadBreak h ∨ key = .threadLoose h ∨ key = .bobbinLow h)
    (n : Option Needle) (d : Detail) (p : Option Position) (s : State) : s.onHead h (s.openCause key n d p) := by
  refine ⟨rfl, fun _ => rfl, fun _ _ => rfl, fun _ _ _ => rfl, fun k' b1 b2 b3 => State.entries_openCause_ne ?_ n d p s⟩
  rcases own with rfl | rfl | rfl
  · exact b1
  · exact b2
  · exact b3

theorem clearLoose (s : State) : s.onHead h (s.clearCause (.threadLoose h)) where
  frame := by rw [State.clearCause_eq]
  threads n := by simp
  records g _ := by simp
  states g _ n := by simp
  entries key _ apart _ := State.entries_clearCause_ne apart s

theorem requestStop (r : StopReason) (s : State) : s.onHead h (s.requestStop r) where
  frame := by rw [State.requestStop_eq]
  threads n := by simp
  records g _ := by simp
  states g _ n := by simp
  entries key _ _ _ := by simp [State.entries]

end State.onHead

/-- The needle states that a break leaves: the current needle's is BROKEN for the head (R143). -/
theorem State.breakNeedle_perHead (h g : Head) (n : Needle) (s : State) :
    ((s.breakNeedle h).needles.get n).perHead.get g =
      if s.run.needle = some n ∧ h = g then .broken else (s.needles.get n).perHead.get g := by
  unfold State.breakNeedle
  cases current : s.run.needle with
  | none => simp
  | some m =>
    by_cases same : m = n
    · subst same; simp [Table.get_set]
    · simp [Table.get_set, same]

theorem State.breakNeedle_thread (h : Head) (n : Needle) (s : State) :
    ((s.breakNeedle h).needles.get n).thread = (s.needles.get n).thread := by
  unfold State.breakNeedle
  cases s.run.needle with
  | none => rfl
  | some m =>
    by_cases same : m = n
    · subst same; simp
    · simp [Table.get_set, same]

namespace State.onHead

theorem breakNeedle (s : State) : s.onHead h (s.breakNeedle h) where
  frame := by
    unfold State.breakNeedle
    split <;> rfl
  threads n := s.breakNeedle_thread h n
  records g _ := by simp
  states g apart n := by rw [State.breakNeedle_perHead, if_neg fun both => apart both.2.symm]
  entries key _ _ _ := by simp [State.entries]

theorem breakHead (s : State) (cause : BreakCause) : s.onHead h (s.breakHead h cause) := by
  have broken : s.onHead h (((s.setHead h ((s.heads.get h).toBroken s.mendOrdinal)).breakNeedle h).openThreadBreak h
      cause s.run.chain) :=
    ((setHead _ s).trans (breakNeedle _)).trans (openCause (.inl rfl) ..)
  unfold State.breakHead
  dsimp only
  split
  · exact broken.trans (requestStop _ _)
  · exact broken

theorem looseHead (s : State) : s.onHead h (s.looseHead h) := (openCause (.inr (.inl rfl)) ..).trans (setHead _ _)

theorem quietHead (s : State) : s.onHead h (s.quietHead h) := by
  unfold State.quietHead
  repeat' split
  · exact refl h s
  · exact (setHead _ s).trans (clearLoose _)
  · exact setHead _ s

theorem testBobbin (s : State) : s.onHead h (s.testBobbin h) := by
  unfold State.testBobbin
  dsimp only
  repeat' split
  · exact breakHead s _
  · exact openCause (.inr (.inr rfl)) ..
  · exact refl h s

end State.onHead

/-! ## The charge, case by case -/

/-- The head's record with the charge made and the grace lowered, before the tests (R138, R140). -/
def State.charged (k : RevKind) (h : Head) (s : State) : State :=
  s.setHead h { s.heads.get h with
    balance := chargeBalance (s.heads.get h).balance (s.config.demand k)
    meter := (s.heads.get h).meter + s.config.demand k
    grace := (s.heads.get h).grace - 1 }

/-- A TRIM sets the grace anew (R140). -/
def State.regrace (k : RevKind) (h : Head) (s : State) : State :=
  if k = .trim then s.setHead h { s.heads.get h with grace := 2 } else s

/-- The balance of a head behind its charge. -/
def State.chargedBalance (k : RevKind) (h : Head) (s : State) : Int :=
  chargeBalance (s.heads.get h).balance (s.config.demand k)

theorem State.charged_get (k : RevKind) (h : Head) (s : State) : (s.charged k h).heads.get h = { s.heads.get h with
    balance := s.chargedBalance k h, meter := (s.heads.get h).meter + s.config.demand k
    grace := (s.heads.get h).grace - 1 } := Table.get_set_self ..

/-- A head with grace left is charged and not tested. -/
theorem State.chargeHead_spared (grace : 0 < (s.heads.get h).grace) :
    s.chargeHead k h = ((s.charged k h).quietHead h).regrace k h := by
  unfold State.chargeHead State.charged State.regrace
  simp only [grace.ne', decide_false, Bool.false_and, Bool.false_eq_true, if_false]

section Tested

variable (tested : (s.heads.get h).grace = 0)
include tested

theorem State.chargeHead_upper (over_ : (s.config.breakThreshold : Int) < s.chargedBalance k h) :
    s.chargeHead k h = (((s.charged k h).breakHead h .upper).quietHead h).regrace k h := by
  have whole : s.config.isLoose (chargeBalance (s.heads.get h).balance (s.config.demand k)) = false :=
    decide_eq_false fun both => absurd both.1 (not_le.2 over_)
  have breaks : (s.charged k h).testHead h = (s.charged k h).breakHead h .upper := by
    unfold State.testHead
    rw [State.charged_get]
    exact if_pos over_
  unfold State.chargeHead State.regrace
  simp only [tested, decide_true, Bool.true_and, whole, Bool.false_eq_true, if_true, if_false]
  rw [← breaks]
  simp only [State.charged, tested]

section Within

variable (within : s.chargedBalance k h ≤ s.config.breakThreshold)
include within

theorem State.chargeHead_whole (whole : -(s.config.looseThreshold : Int) ≤ s.chargedBalance k h) :
    s.chargeHead k h = (((s.charged k h).testBobbin h).quietHead h).regrace k h := by
  have notLoose : s.config.isLoose (s.chargedBalance k h) = false :=
    decide_eq_false fun both => absurd both.2 (not_lt.2 whole)
  have tests : (s.charged k h).testHead h = (s.charged k h).testBobbin h := by
    unfold State.testHead
    rw [State.charged_get]
    exact (if_neg (not_lt.2 within)).trans (if_neg (Bool.eq_false_iff.1 notLoose))
  unfold State.chargedBalance at notLoose
  unfold State.chargeHead State.regrace
  simp only [tested, decide_true, Bool.true_and, notLoose, Bool.false_eq_true, if_true, if_false]
  rw [← tests]
  simp only [State.charged, tested]

theorem State.chargeHead_loose (loose : s.chargedBalance k h < -(s.config.looseThreshold : Int)) :
    s.chargeHead k h = (((s.charged k h).looseHead h).testBobbin h).regrace k h := by
  have isLoose : s.config.isLoose (s.chargedBalance k h) = true := decide_eq_true ⟨within, loose⟩
  have tests : (s.charged k h).testHead h = ((s.charged k h).looseHead h).testBobbin h := by
    unfold State.testHead
    rw [State.charged_get]
    exact (if_neg (not_lt.2 within)).trans (if_pos isLoose)
  unfold State.chargedBalance at isLoose
  unfold State.chargeHead State.regrace
  simp only [tested, decide_true, Bool.true_and, isLoose, if_true]
  rw [← tests]
  simp only [State.charged, tested]

end Within
end Tested

/-- The work at a charge is one of these. -/
theorem State.chargeHead_cases (k : RevKind) (h : Head) (s : State) :
    (0 < (s.heads.get h).grace ∧ s.chargeHead k h = ((s.charged k h).quietHead h).regrace k h) ∨
    (s.heads.get h).grace = 0 ∧
      ((s.config.breakThreshold < s.chargedBalance k h ∧
          s.chargeHead k h = (((s.charged k h).breakHead h .upper).quietHead h).regrace k h) ∨
        s.chargedBalance k h ≤ s.config.breakThreshold ∧
          ((-(s.config.looseThreshold : Int) ≤ s.chargedBalance k h ∧
              s.chargeHead k h = (((s.charged k h).testBobbin h).quietHead h).regrace k h) ∨
            s.chargedBalance k h < -(s.config.looseThreshold : Int) ∧
              s.chargeHead k h = (((s.charged k h).looseHead h).testBobbin h).regrace k h)) := by
  rcases Nat.eq_zero_or_pos (s.heads.get h).grace with tested | spared
  · refine .inr ⟨tested, ?_⟩
    rcases lt_or_ge (s.config.breakThreshold : Int) (s.chargedBalance k h) with above | within
    · exact .inl ⟨above, State.chargeHead_upper tested above⟩
    · refine .inr ⟨within, ?_⟩
      rcases lt_or_ge (s.chargedBalance k h) (-(s.config.looseThreshold : Int)) with loose | whole
      · exact .inr ⟨loose, State.chargeHead_loose tested within loose⟩
      · exact .inl ⟨whole, State.chargeHead_whole tested within whole⟩
  · exact .inl ⟨spared, State.chargeHead_spared spared⟩

theorem State.onHead.regrace (k : RevKind) (s : State) : s.onHead h (s.regrace k h) := by
  unfold State.regrace
  split
  · exact setHead _ s
  · exact refl h s

theorem State.onHead.chargeHead (k : RevKind) (h : Head) (s : State) : s.onHead h (s.chargeHead k h) := by
  have charged : s.onHead h (s.charged k h) := setHead _ s
  rcases s.chargeHead_cases k h with ⟨-, eq⟩ | ⟨-, ⟨-, eq⟩ | ⟨-, ⟨-, eq⟩ | ⟨-, eq⟩⟩⟩ <;> rw [eq]
  · exact (charged.trans (quietHead _)).trans (regrace k _)
  · exact ((charged.trans (breakHead _ _)).trans (quietHead _)).trans (regrace k _)
  · exact ((charged.trans (testBobbin _)).trans (quietHead _)).trans (regrace k _)
  · exact ((charged.trans (looseHead _)).trans (testBobbin _)).trans (regrace k _)

/-! ## What the work on a head looks at -/

/-- `s` and `t` agree in what the work on head `h` looks at. -/
structure State.seesSame (h : Head) (s t : State) : Prop where
  config : s.config = t.config
  needle : s.run.needle = t.run.needle
  chain : s.run.chain = t.run.chain
  ordinal : s.run.ordinal = t.run.ordinal
  blockStart : s.run.blockStart = t.run.blockStart
  record : s.heads.get h = t.heads.get h
  states : ∀ n, (s.needles.get n).perHead.get h = (t.needles.get n).perHead.get h
  breaks : s.entries (.threadBreak h) = t.entries (.threadBreak h)
  looses : s.entries (.threadLoose h) = t.entries (.threadLoose h)
  lows : s.entries (.bobbinLow h) = t.entries (.bobbinLow h)

namespace State.seesSame

variable (e : State.seesSame h s t)
include e

theorem symm : t.seesSame h s :=
  ⟨e.config.symm, e.needle.symm, e.chain.symm, e.ordinal.symm, e.blockStart.symm, e.record.symm,
    fun n => (e.states n).symm, e.breaks.symm, e.looses.symm, e.lows.symm⟩

theorem setHead (r : HeadRecord) : (s.setHead h r).seesSame h (t.setHead h r) :=
  { e with record := (Table.get_set_self ..).trans (Table.get_set_self ..).symm }

theorem openCause {key : Key} (n : Option Needle) (d : Detail) (p : Option Position) :
    (s.openCause key n d p).seesSame h (t.openCause key n d p) := by
  have each {key' : Key} (same : s.entries key' = t.entries key') :
      (s.openCause key n d p).entries key' = (t.openCause key n d p).entries key' := by
    by_cases own : key' = key
    · subst own; rw [State.entries_openCause, State.entries_openCause, same, e.ordinal]
    · rw [State.entries_openCause_ne own, State.entries_openCause_ne own, same]
  exact { e with breaks := each e.breaks, looses := each e.looses, lows := each e.lows }

theorem clearCause (key : Key) : (s.clearCause key).seesSame h (t.clearCause key) := by
  have each {key' : Key} (same : s.entries key' = t.entries key') :
      (s.clearCause key).entries key' = (t.clearCause key).entries key' := by
    by_cases own : key' = key
    · subst own; rw [State.entries_clearCause, State.entries_clearCause, same]
    · rw [State.entries_clearCause_ne own, State.entries_clearCause_ne own, same]
  exact ⟨by simp [e.config], by simp [e.needle], by simp [e.chain], by simp [e.ordinal], by simp [e.blockStart],
    by simp [e.record], fun n => by simp [e.states n], each e.breaks, each e.looses, each e.lows⟩

theorem requestStop_left (r : StopReason) : (s.requestStop r).seesSame h t := by
  have run := s.requestStop_eq r
  exact ⟨by simp [e.config], by rw [run]; exact e.needle, by rw [run]; exact e.chain, by rw [run]; exact e.ordinal,
    by rw [run]; exact e.blockStart, by simp [e.record], fun n => by simp [e.states n],
    by simp [State.entries]; exact e.breaks, by simp [State.entries]; exact e.looses,
    by simp [State.entries]; exact e.lows⟩

theorem breakNeedle : (s.breakNeedle h).seesSame h (t.breakNeedle h) := by
  have keeps (s : State) (key : Key) : (s.breakNeedle h).entries key = s.entries key := by simp [State.entries]
  exact ⟨by simp [e.config], by simp [e.needle], by simp [e.chain], by simp [e.ordinal], by simp [e.blockStart],
    by simp [e.record], fun n => by rw [State.breakNeedle_perHead, State.breakNeedle_perHead, e.needle, e.states],
    by rw [keeps, keeps, e.breaks], by rw [keeps, keeps, e.looses], by rw [keeps, keeps, e.lows]⟩

theorem mendOrdinal : s.mendOrdinal = t.mendOrdinal := by
  unfold State.mendOrdinal
  rw [e.config, e.ordinal, e.blockStart]

theorem causeOpen_low : s.causeOpen (.bobbinLow h) = t.causeOpen (.bobbinLow h) := by
  rw [State.causeOpen_eq_any, State.causeOpen_eq_any, e.lows]

theorem breakHead (cause : BreakCause) : (s.breakHead h cause).seesSame h (t.breakHead h cause) := by
  have broken : (((s.setHead h ((s.heads.get h).toBroken s.mendOrdinal)).breakNeedle h).openThreadBreak h cause
      s.run.chain).seesSame h (((t.setHead h ((t.heads.get h).toBroken t.mendOrdinal)).breakNeedle h).openThreadBreak h
      cause t.run.chain) := by
    rw [e.record, e.mendOrdinal, e.chain]
    unfold State.openThreadBreak
    have struck := (e.setHead ((t.heads.get h).toBroken t.mendOrdinal)).breakNeedle
    rw [struck.needle]
    exact struck.openCause ..
  unfold State.breakHead
  dsimp only
  split <;> split
  · exact (broken.requestStop_left _).symm.requestStop_left _ |>.symm
  · exact broken.requestStop_left _
  · exact (broken.symm.requestStop_left _).symm
  · exact broken

theorem looseHead : (s.looseHead h).seesSame h (t.looseHead h) := by
  unfold State.looseHead
  rw [e.needle, e.chain, e.record, e.config]
  exact (e.openCause ..).setHead _

theorem quietHead : (s.quietHead h).seesSame h (t.quietHead h) := by
  unfold State.quietHead
  rw [e.record]
  cases (t.heads.get h).looseQuiet with
  | none => exact e
  | some n =>
    dsimp only
    split
    · exact (e.setHead _).clearCause _
    · exact e.setHead _

theorem testBobbin : (s.testBobbin h).seesSame h (t.testBobbin h) := by
  unfold State.testBobbin
  rw [e.record, e.config, e.causeOpen_low, e.needle]
  dsimp only
  repeat' split
  · exact e.breakHead _
  · exact e.openCause ..
  · exact e

theorem charged (k : RevKind) : (s.charged k h).seesSame h (t.charged k h) := by
  unfold State.charged
  rw [e.record, e.config]
  exact e.setHead _

theorem regrace (k : RevKind) : (s.regrace k h).seesSame h (t.regrace k h) := by
  unfold State.regrace
  rw [e.record]
  split
  · exact e.setHead _
  · exact e

theorem testHead : (s.testHead h).seesSame h (t.testHead h) := by
  unfold State.testHead
  rw [e.record, e.config]
  dsimp only
  repeat' split
  · exact e.breakHead _
  · exact e.looseHead.testBobbin
  · exact e.testBobbin

theorem chargeHead (k : RevKind) : (s.chargeHead k h).seesSame h (t.chargeHead k h) := by
  have balance : s.chargedBalance k h = t.chargedBalance k h := by unfold State.chargedBalance; rw [e.record, e.config]
  have charged := e.charged k
  rcases s.chargeHead_cases k h with ⟨spared, eq⟩ | ⟨tested, ⟨above, eq⟩ | ⟨within, ⟨whole, eq⟩ | ⟨loose, eq⟩⟩⟩
  · rw [eq, State.chargeHead_spared (e.record ▸ spared)]
    exact charged.quietHead.regrace k
  all_goals rw [e.record] at tested
  · rw [balance, e.config] at above
    rw [eq, State.chargeHead_upper tested above]
    exact (charged.breakHead _).quietHead.regrace k
  · rw [balance, e.config] at within whole
    rw [eq, State.chargeHead_whole tested within whole]
    exact charged.testBobbin.quietHead.regrace k
  · rw [balance, e.config] at within loose
    rw [eq, State.chargeHead_loose tested within loose]
    exact charged.looseHead.testBobbin.regrace k

end State.seesSame

/-! ## The stop that a break asks for -/

/-- A request for a stop looks at the run and the shaft alone. -/
theorem State.requestStop_congr (run : s.run = t.run) (shaft : s.shaft = t.shaft) (r : StopReason) :
    (s.requestStop r).run = (t.requestStop r).run ∧ (s.requestStop r).shaft = (t.requestStop r).shaft := by
  unfold State.requestStop
  rw [run, shaft]
  repeat' split
  all_goals simp [run, shaft]

theorem State.quietHead_run (s : State) : (s.quietHead h).run = s.run ∧ (s.quietHead h).shaft = s.shaft := by
  unfold State.quietHead
  repeat' split
  all_goals simp

theorem State.regrace_run (s : State) : (s.regrace k h).run = s.run ∧ (s.regrace k h).shaft = s.shaft := by
  unfold State.regrace
  split <;> exact ⟨rfl, rfl⟩

/-- A break asks for a stop while the run sews and the policy says so (R143). -/
theorem State.breakHead_stop (sews : s.sewing = true) (policy : s.config.breakPolicy = .stop) :
    (s.breakHead h cause).run = (s.requestStop .breakStop).run ∧
      (s.breakHead h cause).shaft = (s.requestStop .breakStop).shaft := by
  unfold State.breakHead
  rw [if_pos (by simp [sews, policy])]
  exact State.requestStop_congr (by simp [State.openThreadBreak]) (by simp [State.openThreadBreak]) _

theorem State.breakHead_goesOn (h' : s.sewing = false ∨ s.config.breakPolicy ≠ .stop) :
    (s.breakHead h cause).run = s.run ∧ (s.breakHead h cause).shaft = s.shaft := by
  unfold State.breakHead
  rw [if_neg (by rcases h' with h' | h' <;> simp [h'])]
  simp [State.openThreadBreak]

/-- The charge of a head finds a break (R141). -/
def State.breaksAt (k : RevKind) (h : Head) (s : State) : Prop :=
  (s.heads.get h).grace = 0 ∧ ((s.config.breakThreshold : Int) < s.chargedBalance k h ∨
    s.config.bobbinSu ≤ (s.heads.get h).meter + s.config.demand k)

/-- The bobbin test, with the meter spent. -/
theorem State.testBobbin_spent (spent : s.config.bobbinSu ≤ (s.heads.get h).meter) :
    s.testBobbin h = s.breakHead h .bobbin := if_pos spent

theorem State.testBobbin_warns (left_ : (s.heads.get h).meter < s.config.bobbinSu)
    (low : s.config.bobbinWarn ≤ (s.heads.get h).meter) (closed : s.causeOpen (.bobbinLow h) = false) :
    s.testBobbin h = s.openCause (.bobbinLow h) s.run.needle (.meter (s.heads.get h).meter) none := by
  unfold State.testBobbin
  rw [if_neg (Nat.not_le.2 left_), if_pos (by simp [low, closed])]

theorem State.testBobbin_plain (left_ : (s.heads.get h).meter < s.config.bobbinSu)
    (plain : (s.heads.get h).meter < s.config.bobbinWarn ∨ s.causeOpen (.bobbinLow h) = true) :
    s.testBobbin h = s := by
  unfold State.testBobbin
  rw [if_neg (Nat.not_le.2 left_), if_neg]
  rcases plain with plain | plain <;> simp [plain]

theorem State.testBobbin_run (left_ : (s.heads.get h).meter < s.config.bobbinSu) :
    (s.testBobbin h).run = s.run ∧ (s.testBobbin h).shaft = s.shaft := by
  unfold State.testBobbin
  rw [if_neg (Nat.not_le.2 left_)]
  split <;> exact ⟨rfl, rfl⟩

/-- The charge asks for a stop where it finds a break, the run sews, and the policy says so. -/
theorem State.chargeHead_stop (breaks : s.breaksAt k h) (sews : s.sewing = true)
    (policy : s.config.breakPolicy = .stop) : (s.chargeHead k h).run = (s.requestStop .breakStop).run ∧
      (s.chargeHead k h).shaft = (s.requestStop .breakStop).shaft := by
  obtain ⟨grace, finds⟩ := breaks
  have stops (x : State) (run : x.run = s.run) (shaft : x.shaft = s.shaft) (config : x.config = s.config)
      (cause : BreakCause) : (x.breakHead h cause).run = (s.requestStop .breakStop).run ∧
        (x.breakHead h cause).shaft = (s.requestStop .breakStop).shaft := by
    have sews' : x.sewing = true := by unfold State.sewing at sews ⊢; rwa [run]
    obtain ⟨r1, s1⟩ := State.breakHead_stop (h := h) (cause := cause) sews' (config ▸ policy)
    obtain ⟨r2, s2⟩ := State.requestStop_congr run shaft .breakStop
    exact ⟨r1.trans r2, s1.trans s2⟩
  rcases s.chargeHead_cases k h with ⟨spared, -⟩ | ⟨-, ⟨above, eq⟩ | ⟨within, ⟨whole, eq⟩ | ⟨loose, eq⟩⟩⟩
  · omega
  · rw [eq, (State.regrace_run _).1, (State.regrace_run _).2, (State.quietHead_run _).1, (State.quietHead_run _).2]
    exact stops (s.charged k h) rfl rfl rfl _
  all_goals
    have spent : s.config.bobbinSu ≤ (s.heads.get h).meter + s.config.demand k := finds.resolve_left (not_lt.2 within)
  · rw [eq, (State.regrace_run _).1, (State.regrace_run _).2, (State.quietHead_run _).1, (State.quietHead_run _).2,
      State.testBobbin_spent (by rw [State.charged_get]; exact spent)]
    exact stops (s.charged k h) rfl rfl rfl _
  · rw [eq, (State.regrace_run _).1, (State.regrace_run _).2,
      State.testBobbin_spent (by simp only [State.looseHead, State.setHead, Table.get_set_self, State.charged_get]; exact spent)]
    exact stops ((s.charged k h).looseHead h) rfl rfl rfl _

/-- The charge leaves the run and the shaft alone otherwise. -/
theorem State.chargeHead_goesOn (quiet : ¬s.breaksAt k h ∨ s.sewing = false ∨ s.config.breakPolicy ≠ .stop) :
    (s.chargeHead k h).run = s.run ∧ (s.chargeHead k h).shaft = s.shaft := by
  have bobbin (x : State) (run : x.run = s.run) (shaft : x.shaft = s.shaft) (config : x.config = s.config)
      (meter : (x.heads.get h).meter = (s.heads.get h).meter + s.config.demand k) (grace : (s.heads.get h).grace = 0) :
      (x.testBobbin h).run = s.run ∧ (x.testBobbin h).shaft = s.shaft := by
    rcases lt_or_ge (x.heads.get h).meter x.config.bobbinSu with left_ | spent
    · obtain ⟨r, sh⟩ := State.testBobbin_run left_
      exact ⟨r.trans run, sh.trans shaft⟩
    · have goesOn := quiet.resolve_left (not_not.2 ⟨grace, .inr (meter ▸ config ▸ spent)⟩)
      rw [State.testBobbin_spent spent]
      obtain ⟨r, sh⟩ := State.breakHead_goesOn (s := x) (h := h) (cause := .bobbin)
        (by unfold State.sewing at goesOn ⊢; rwa [run, config])
      exact ⟨r.trans run, sh.trans shaft⟩
  rcases s.chargeHead_cases k h with ⟨spared, eq⟩ | ⟨grace, ⟨above, eq⟩ | ⟨within, ⟨whole, eq⟩ | ⟨loose, eq⟩⟩⟩
  all_goals rw [eq, (State.regrace_run _).1, (State.regrace_run _).2]
  · exact State.quietHead_run _
  · rw [(State.quietHead_run _).1, (State.quietHead_run _).2]
    exact State.breakHead_goesOn (s := s.charged k h) (quiet.resolve_left (not_not.2 ⟨grace, .inl above⟩))
  · rw [(State.quietHead_run _).1, (State.quietHead_run _).2]
    exact bobbin _ rfl rfl rfl (by rw [State.charged_get]) grace
  · exact bobbin _ rfl rfl rfl (by simp [State.looseHead, State.setHead, State.charged_get]) grace

end Sys2Proof.Machine
end

section
/-! PROOFS. The thread charge of one head and the completion point (R93, R107, R137, R138, R140 to R144, R150). -/

namespace Sys2Proof.Machine

variable {s t : State} {h : Head} {k : RevKind} {cause : BreakCause}

theorem Table.set_set {α : Type} {n : Nat} (t : Table n α) (i : Fin n) (a b : α) : (t.set i a).set i b = t.set i b := by
  refine Table.ext_get fun j => ?_
  rw [Table.get_set, Table.get_set, Table.get_set]
  split <;> rfl

/-! ## The loose-quiet count and a TRIM's grace -/

/-- The loose-quiet count lowered (R142). -/
def lowerQuiet (q : Option Nat) : Option Nat := q.bind fun n => if n ≤ 1 then none else some (n - 1)

/-- A head's record behind a charge with no loose outcome: the loose-quiet count lowered, and a TRIM's grace. -/
def HeadRecord.calmed (k : RevKind) (r : HeadRecord) : HeadRecord :=
  { r with looseQuiet := lowerQuiet r.looseQuiet, grace := if k = .trim then 2 else r.grace }

theorem State.quietHead_heads (s : State) : (s.quietHead h).heads =
    s.heads.set h { s.heads.get h with looseQuiet := lowerQuiet (s.heads.get h).looseQuiet } := by
  unfold State.quietHead lowerQuiet
  cases quiet : (s.heads.get h).looseQuiet with
  | none =>
    have same : { s.heads.get h with looseQuiet := none } = s.heads.get h := by rw [← quiet]
    dsimp only [Option.bind_none]
    rw [same, Table.set_get]
  | some n =>
    dsimp only [Option.bind_some]
    split <;> simp [State.setHead]

theorem State.quietHead_eq (s : State) : s.quietHead h = { s with
    heads := (s.quietHead h).heads, conditions := (s.quietHead h).conditions, changes := (s.quietHead h).changes } := by
  unfold State.quietHead
  repeat' split
  · rfl
  · rw [State.clearCause_eq]; rfl
  · rfl

theorem State.regrace_heads (s : State) : (s.regrace k h).heads =
    s.heads.set h { s.heads.get h with grace := if k = .trim then 2 else (s.heads.get h).grace } := by
  unfold State.regrace
  by_cases trim : k = .trim
  · rw [if_pos trim, if_pos trim]; rfl
  · rw [if_neg trim, if_neg trim]; exact (Table.set_get ..).symm

theorem State.regrace_eq (s : State) : s.regrace k h = { s with heads := (s.regrace k h).heads } := by
  unfold State.regrace
  split <;> rfl

theorem State.entries_quietHead_ne {key : Key} (apart : key ≠ .threadLoose h) (s : State) :
    (s.quietHead h).entries key = s.entries key := by
  unfold State.quietHead
  repeat' split
  · rfl
  · exact State.entries_clearCause_ne apart _
  · rfl

theorem State.entries_quietHead_kept {key : Key} (s : State)
    (kept : (s.heads.get h).looseQuiet = none ∨ lowerQuiet (s.heads.get h).looseQuiet ≠ none) :
    (s.quietHead h).entries key = s.entries key := by
  unfold State.quietHead
  unfold lowerQuiet at kept
  cases quiet : (s.heads.get h).looseQuiet with
  | none => rfl
  | some n =>
    dsimp only
    split
    · rename_i last; simp [quiet, last] at kept
    · rfl

/-- The last count of a loose-quiet count clears THREAD_LOOSE (R142). -/
theorem State.quietHead_clears (s : State) (sound : s.conditionsSound) (counts : (s.heads.get h).looseQuiet ≠ none)
    (last : lowerQuiet (s.heads.get h).looseQuiet = none) : (s.quietHead h).causeOpen (.threadLoose h) = false := by
  unfold State.quietHead
  unfold lowerQuiet at last
  cases quiet : (s.heads.get h).looseQuiet with
  | none => exact absurd quiet counts
  | some n =>
    have small : n ≤ 1 := by
      rw [quiet, Option.bind_some] at last
      by_contra large
      rw [if_neg large] at last
      cases last
    dsimp only
    rw [if_pos small]
    exact State.clearCause_causeOpen (s := s.setHead h _) sound _

/-- A charge with no loose outcome ends so (R140, R142). -/
theorem State.calmed_eq (s : State) : (s.quietHead h).regrace k h = { s with
    heads := s.heads.set h ((s.heads.get h).calmed k)
    conditions := (s.quietHead h).conditions, changes := (s.quietHead h).changes } := by
  rw [State.regrace_eq, State.regrace_heads, State.quietHead_heads, Table.set_set, Table.get_set_self, State.quietHead_eq]
  rfl

theorem State.entries_regrace (s : State) (key : Key) : (s.regrace k h).entries key = s.entries key := by
  rw [State.regrace_eq]; rfl

/-! ## A break -/

/-- What a break leaves of the head and its needle, and the cause it opens (R143). -/
theorem State.breakHead_get (s : State) : (s.breakHead h cause).heads = s.heads.set h ((s.heads.get h).toBroken s.mendOrdinal) ∧
    ∀ n, s.run.needle = some n → ((s.breakHead h cause).needles.get n).perHead.get h = .broken := by
  have struck (n : Needle) (current : s.run.needle = some n) (r : HeadRecord) :
      (((s.setHead h r).breakNeedle h).needles.get n).perHead.get h = .broken := by
    rw [State.breakNeedle_perHead, if_pos ⟨current, rfl⟩]
  unfold State.breakHead
  dsimp only
  split
  · exact ⟨by simp [State.openThreadBreak, State.setHead], fun n current => by
      rw [State.requestStop_needles]; exact struck n current _⟩
  · exact ⟨by simp [State.openThreadBreak, State.setHead], fun n current => struck n current _⟩

theorem State.breakHead_conditions (s : State) : (s.breakHead h cause).conditions =
    (s.openCause (.threadBreak h) s.run.needle (.threadBreak cause) s.run.chain).conditions := by
  unfold State.breakHead State.openThreadBreak
  dsimp only
  split
  · rw [State.requestStop_conditions]; simp [State.openCause]
  · simp [State.openCause]

theorem State.condition?_breakHead (s : State) : ∃ c, (s.breakHead h cause).condition? (.threadBreak h) = some c ∧
    c.state = .opened ∧ c.detail = .threadBreak cause ∧ c.needle = s.run.needle ∧ c.ordinal = s.run.ordinal ∧
    c.position = s.run.chain := by
  unfold State.condition?
  rw [State.breakHead_conditions]
  exact State.condition?_openCause ..

theorem State.entries_breakHead_ne {key : Key} (apart : key ≠ .threadBreak h) (s : State) :
    (s.breakHead h cause).entries key = s.entries key := by
  unfold State.entries
  rw [State.breakHead_conditions]
  exact State.entries_openCause_ne apart ..

theorem State.condition?_of_entries {key : Key} (same : t.entries key = s.entries key) :
    t.condition? key = s.condition? key := by rw [State.condition?_eq, State.condition?_eq, same]

/-- What a statement says of a head that breaks, its charge ending with `t` (R143). -/
theorem State.broken_outcome {x : State} (breaks : t.heads.get h = { (x.breakHead h cause).heads.get h with
      looseQuiet := (t.heads.get h).looseQuiet, grace := if k = .trim then 2 else (x.heads.get h).grace })
    (needles : t.needles = (x.breakHead h cause).needles)
    (cond : t.entries (.threadBreak h) = (x.breakHead h cause).entries (.threadBreak h)) :
    (t.heads.get h).state = .broken x.mendOrdinal ∧ (t.heads.get h).balance = 0 ∧
      (t.heads.get h).meter = (x.heads.get h).meter ∧
      (t.heads.get h).grace = (if k = .trim then 2 else (x.heads.get h).grace) ∧
      (∀ n, x.run.needle = some n → (t.needles.get n).perHead.get h = .broken) ∧
      ∃ c, t.condition? (.threadBreak h) = some c ∧ c.state = .opened ∧ c.detail = .threadBreak cause ∧
        c.needle = x.run.needle ∧ c.ordinal = x.run.ordinal ∧ c.position = x.run.chain := by
  obtain ⟨heads, struck⟩ := x.breakHead_get (h := h) (cause := cause)
  rw [heads, Table.get_set_self] at breaks
  refine ⟨by rw [breaks]; rfl, by rw [breaks]; rfl, by rw [breaks]; rfl, by rw [breaks], needles ▸ struck, ?_⟩
  rw [State.condition?_of_entries cond]
  exact x.condition?_breakHead

/-! ## The bobbin's warning and a loose outcome -/

/-- The bobbin test of a bobbin that is not spent touches BOBBIN_LOW alone (R141). -/
theorem State.testBobbin_eq (left_ : (s.heads.get h).meter < s.config.bobbinSu) : s.testBobbin h =
    { s with conditions := (s.testBobbin h).conditions, changes := (s.testBobbin h).changes } := by
  unfold State.testBobbin
  dsimp only
  rw [if_neg (Nat.not_le.2 left_)]
  split <;> rfl

theorem State.entries_testBobbin_ne {key : Key} (left_ : (s.heads.get h).meter < s.config.bobbinSu)
    (apart : key ≠ .bobbinLow h) : (s.testBobbin h).entries key = s.entries key := by
  unfold State.testBobbin
  dsimp only
  rw [if_neg (Nat.not_le.2 left_)]
  split
  · exact State.entries_openCause_ne apart ..
  · rfl

/-- The warning opens BOBBIN_LOW, unless it stands open. -/
theorem State.testBobbin_warned (left_ : (s.heads.get h).meter < s.config.bobbinSu)
    (low : s.config.bobbinWarn ≤ (s.heads.get h).meter) (closed : s.causeOpen (.bobbinLow h) = false) :
    ∃ c, (s.testBobbin h).condition? (.bobbinLow h) = some c ∧ c.state = .opened ∧
      c.detail = .meter (s.heads.get h).meter ∧ c.needle = s.run.needle ∧ c.ordinal = s.run.ordinal ∧ c.position = none := by
  rw [State.testBobbin_warns left_ low closed]
  exact State.condition?_openCause ..

theorem State.looseHead_heads (s : State) : (s.looseHead h).heads =
    s.heads.set h { s.heads.get h with looseQuiet := some s.config.looseQuiet, balance := 0 } := rfl

theorem State.condition?_looseHead (s : State) : ∃ c, (s.looseHead h).condition? (.threadLoose h) = some c ∧
    c.state = .opened ∧ c.needle = s.run.needle ∧ c.ordinal = s.run.ordinal ∧ c.position = s.run.chain := by
  obtain ⟨c, found, opened, -, needle, ordinal, position⟩ :=
    s.condition?_openCause (.threadLoose h) s.run.needle .none s.run.chain
  exact ⟨c, found, opened, needle, ordinal, position⟩

theorem State.causeOpen_of_entries {key : Key} (same : t.entries key = s.entries key) :
    t.causeOpen key = s.causeOpen key := by rw [State.causeOpen_eq_any, State.causeOpen_eq_any, same]

/-- A controlled stop taken up by a run that goes on with none asked for (R104). -/
theorem State.requestStop_running {r : StopReason} (running : s.run.state = .running) (free : s.shaft.stopReq = .none) :
    s.requestStop r = { s with
      shaft := { s.shaft with stopReq := .controlled }
      run := { s.run with state := .stopping, pendingStop := true, reason := r } } := by
  simp only [State.requestStop, running]
  exact if_pos free

/-- A stop is not requested twice, and not of a run that does not go on (R104). -/
theorem State.requestStop_idempotent {r : StopReason}
    (h : s.run.state = .stopped ∨ s.run.state = .stopping ∧ s.shaft.stopReq ≠ .none) : s.requestStop r = s := by
  rcases h with state | ⟨state, asked⟩ <;> simp only [State.requestStop, state]
  exact if_neg asked

end Sys2Proof.Machine
end

section
/-! PROOFS. The completion point: the penetrating heads charged one after another (R93, R107, R137, R144). -/

namespace Sys2Proof.Machine

variable {s t u : State} {h : Head} {k : RevKind}

/-! ## Every head of the penetrating set -/

/-- The heads of the penetrating set charged, in ascending number. -/
def State.chargeSet (k : RevKind) (pen : Table 12 Bool) (s : State) : State :=
  allHeads.foldl (fun s h => if pen.get h then s.chargeHead k h else s) s

/-- `t` differs from `s` by charges of heads. -/
structure State.charges (s t : State) : Prop where
  frame : t = { s with
    heads := t.heads, needles := t.needles, conditions := t.conditions, changes := t.changes
    run := { s.run with state := t.run.state, pendingStop := t.run.pendingStop, reason := t.run.reason }
    shaft := { s.shaft with stopReq := t.shaft.stopReq } }
  threads : ∀ n, (t.needles.get n).thread = (s.needles.get n).thread

theorem State.charges.refl (s : State) : s.charges s := ⟨rfl, fun _ => rfl⟩

theorem State.charges.trans (a : s.charges t) (b : t.charges u) : s.charges u where
  frame := by
    have eq := b.frame
    rw [a.frame] at eq
    exact eq
  threads n := (b.threads n).trans (a.threads n)

theorem State.chargeSet_charges (k : RevKind) (pen : Table 12 Bool) (s : State) : s.charges (s.chargeSet k pen) := by
  refine foldl_related State.charges.refl State.charges.trans (fun t h => ?_) allHeads s
  split
  · exact ⟨(State.onHead.chargeHead k h t).frame, (State.onHead.chargeHead k h t).threads⟩
  · exact State.charges.refl t

/-- What concerns one head: its record, its needle states, and the entries of its keys. -/
def State.headView (h : Head) (s : State) :
    HeadRecord × (Needle → NeedleState) × List Condition × List Condition × List Condition :=
  (s.heads.get h, fun n => (s.needles.get n).perHead.get h, s.entries (.threadBreak h), s.entries (.threadLoose h),
    s.entries (.bobbinLow h))

/-- What the work on a head looks at beside the head. -/
def State.headCommon (s : State) : Configuration × Option Needle × Option Position × Nat × Nat :=
  (s.config, s.run.needle, s.run.chain, s.run.ordinal, s.run.blockStart)

theorem State.seesSame_of_views (common : s.headCommon = t.headCommon) (view : s.headView h = t.headView h) :
    s.seesSame h t := by
  simp only [State.headCommon, Prod.mk.injEq] at common
  simp only [State.headView, Prod.mk.injEq] at view
  obtain ⟨config, needle, chain, ordinal, blockStart⟩ := common
  obtain ⟨record, states, breaks, looses, lows⟩ := view
  exact ⟨config, needle, chain, ordinal, blockStart, record, congrFun states, breaks, looses, lows⟩

theorem State.seesSame.view (e : s.seesSame h t) : s.headView h = t.headView h := by
  unfold State.headView
  rw [e.record, funext e.states, e.breaks, e.looses, e.lows]

theorem State.onHead.common (w : s.onHead h t) : t.headCommon = s.headCommon := by
  rw [w.frame]; rfl

theorem State.onHead.view {g : Head} (w : s.onHead h t) (apart : g ≠ h) : t.headView g = s.headView g := by
  unfold State.headView
  rw [w.records g apart, funext (w.states g apart), w.entries _ (by simp [apart]) (by simp) (by simp),
    w.entries _ (by simp) (by simp [apart]) (by simp), w.entries _ (by simp) (by simp) (by simp [apart])]

/-- Charging the set does for each head of it what charging that head alone does, and nothing for the others. -/
theorem State.chargeSet_view (k : RevKind) (pen : Table 12 Bool) (s : State) (h : Head) :
    (s.chargeSet k pen).headView h = if pen.get h then (s.chargeHead k h).headView h else s.headView h := by
  refine (foldl_heads State.headView State.headCommon (fun s h => ?_) (fun s h g apart => ?_)
    (fun s t h common view => ?_) s h).trans ?_
  · split
    · exact (State.onHead.chargeHead k h s).common
    · rfl
  · split
    · exact (State.onHead.chargeHead k h s).view apart
    · rfl
  · split
    · exact ((State.seesSame_of_views common view).chargeHead k).view
    · exact view
  · split <;> rfl

/-! ## The stop that the set's breaks ask for -/

/-- The charge of this head asks for a stop. -/
def State.asksStop (k : RevKind) (h : Head) (s : State) : Prop :=
  s.breaksAt k h ∧ s.sewing = true ∧ s.config.breakPolicy = .stop

theorem State.chargeHead_of_asked (asked : s.asksStop k h) : (s.chargeHead k h).run = (s.requestStop .breakStop).run ∧
    (s.chargeHead k h).shaft = (s.requestStop .breakStop).shaft :=
  State.chargeHead_stop asked.1 asked.2.1 asked.2.2

theorem State.chargeHead_of_unasked (h' : ¬s.asksStop k h) : (s.chargeHead k h).run = s.run ∧
    (s.chargeHead k h).shaft = s.shaft := by
  refine State.chargeHead_goesOn ?_
  by_contra both
  obtain ⟨breaks, both⟩ := not_or.1 both
  obtain ⟨sews, policy⟩ := not_or.1 both
  exact h' ⟨not_not.1 breaks, by simpa using sews, not_not.1 policy⟩

/-- With a stop asked for, or a run that does not sew, the charges leave the run and the shaft alone. -/
theorem State.chargeFold_keeps (k : RevKind) (pen : Table 12 Bool) (xs : List Head)
    (h : s.run.state = .stopped ∨ s.run.state = .stopping ∧ s.shaft.stopReq ≠ .none) :
    (xs.foldl (fun s h => if pen.get h then s.chargeHead k h else s) s).run = s.run ∧
      (xs.foldl (fun s h => if pen.get h then s.chargeHead k h else s) s).shaft = s.shaft := by
  induction xs generalizing s with
  | nil => exact ⟨rfl, rfl⟩
  | cons x xs ih =>
    have same : (if pen.get x then s.chargeHead k x else s).run = s.run ∧
        (if pen.get x then s.chargeHead k x else s).shaft = s.shaft := by
      split
      · by_cases asked : s.asksStop k x
        · have charged := State.chargeHead_of_asked asked
          rwa [State.requestStop_idempotent h] at charged
        · exact State.chargeHead_of_unasked asked
      · exact ⟨rfl, rfl⟩
    obtain ⟨run, shaft⟩ := same
    obtain ⟨run', shaft'⟩ := ih (s := if pen.get x then s.chargeHead k x else s) (by rwa [run, shaft])
    rw [List.foldl_cons]
    exact ⟨run'.trans run, shaft'.trans shaft⟩

theorem State.breaksAt_congr (config : t.config = s.config) (record : t.heads.get h = s.heads.get h) :
    t.breaksAt k h ↔ s.breaksAt k h := by
  unfold State.breaksAt State.chargedBalance
  rw [config, record]

theorem State.asksStop_congr (config : t.config = s.config) (record : t.heads.get h = s.heads.get h)
    (sews : t.sewing = s.sewing) : t.asksStop k h ↔ s.asksStop k h := by
  unfold State.asksStop
  rw [State.breaksAt_congr config record, sews, config]

/-- From a run with no stop asked for, the first of the breaks asks for one, and without a break none is. -/
theorem State.chargeFold_running (k : RevKind) (pen : Table 12 Bool) {xs : List Head} (nodup : xs.Nodup)
    (running : s.run.state = .running) (free : s.shaft.stopReq = .none) :
    let t := xs.foldl (fun s h => if pen.get h then s.chargeHead k h else s) s
    ((∃ h ∈ xs, pen.get h = true ∧ s.asksStop k h) → t.run = (s.requestStop .breakStop).run ∧
      t.shaft = (s.requestStop .breakStop).shaft) ∧
    ((∀ h ∈ xs, pen.get h = true → ¬s.asksStop k h) → t.run = s.run ∧ t.shaft = s.shaft) := by
  induction xs generalizing s with
  | nil => exact ⟨fun ⟨_, mem, _⟩ => absurd mem List.not_mem_nil, fun _ => ⟨rfl, rfl⟩⟩
  | cons x xs ih =>
    obtain ⟨fresh, nodup⟩ := List.nodup_cons.1 nodup
    have spread {u : State} (run : u.run = s.run) (shaft : u.shaft = s.shaft) (config : u.config = s.config)
        (others : ∀ g, g ≠ x → u.heads.get g = s.heads.get g) (none_ : ¬(pen.get x = true ∧ s.asksStop k x)) :
        let t := xs.foldl (fun s h => if pen.get h then s.chargeHead k h else s) u
        ((∃ h ∈ x :: xs, pen.get h = true ∧ s.asksStop k h) → t.run = (s.requestStop .breakStop).run ∧
          t.shaft = (s.requestStop .breakStop).shaft) ∧
        ((∀ h ∈ x :: xs, pen.get h = true → ¬s.asksStop k h) → t.run = s.run ∧ t.shaft = s.shaft) := by
      have sews : u.sewing = s.sewing := by unfold State.sewing; rw [run]
      have same {g : Head} (mem : g ∈ xs) : u.asksStop k g ↔ s.asksStop k g :=
        State.asksStop_congr config (others g fun e => fresh (e ▸ mem)) sews
      obtain ⟨stops, goesOn⟩ := ih (s := u) nodup (run ▸ running) (shaft ▸ free)
      obtain ⟨run', shaft'⟩ := State.requestStop_congr run shaft .breakStop
      refine ⟨fun ⟨g, mem, pierced, asked⟩ => ?_, fun quiet => ?_⟩
      · rcases List.mem_cons.1 mem with rfl | later
        · exact absurd ⟨pierced, asked⟩ none_
        · have ⟨r, sh⟩ := stops ⟨g, later, pierced, (same later).2 asked⟩
          exact ⟨r.trans run', sh.trans shaft'⟩
      · have ⟨r, sh⟩ := goesOn fun g later pierced =>
          mt (same later).1 (quiet g (List.mem_cons_of_mem _ later) pierced)
        exact ⟨r.trans run, sh.trans shaft⟩
    rw [List.foldl_cons]
    by_cases pierced : pen.get x = true
    · rw [if_pos pierced]
      by_cases asked : s.asksStop k x
      · have charged := State.chargeHead_of_asked asked
        have ⟨r, sh⟩ := charged
        rw [State.requestStop_running running free] at r sh
        have ⟨run, shaft⟩ := State.chargeFold_keeps (s := s.chargeHead k x) k pen xs
          (.inr ⟨by rw [r], by rw [sh]; nofun⟩)
        exact ⟨fun _ => ⟨run.trans charged.1, shaft.trans charged.2⟩,
          fun quiet => absurd asked (quiet x List.mem_cons_self pierced)⟩
      · have ⟨run, shaft⟩ := State.chargeHead_of_unasked asked
        have worked := State.onHead.chargeHead k x s
        exact spread run shaft (by rw [worked.frame]) worked.records fun both => asked both.2
    · rw [if_neg pierced]
      exact spread rfl rfl rfl (fun _ _ => rfl) fun both => pierced both.1

/-- A run in progress shows in its state whether the charge of one head asks for a stop. -/
theorem State.asksStop_iff (running : s.run.state = .running) (free : s.shaft.stopReq = .none) :
    s.asksStop k h ↔ (s.chargeHead k h).run.state = .stopping := by
  by_cases asked : s.asksStop k h
  · rw [(State.chargeHead_of_asked asked).1, State.requestStop_running running free]
    exact ⟨fun _ => rfl, fun _ => asked⟩
  · rw [(State.chargeHead_of_unasked asked).1, running]
    exact ⟨fun h => absurd h asked, nofun⟩

/-! ## The completion point -/

theorem State.trimmersOff_get (s : State) (h : Head) :
    s.trimmersOff.heads.get h = { s.heads.get h with trimmer := false } := Table.get_map ..

/-- The set charged, with a TRIM's trimmers off, before the test of R144. -/
def State.chargedSet (a : Active) (s : State) : State :=
  if a.kind = .trim then (s.chargeSet a.kind a.pen).trimmersOff else s.chargeSet a.kind a.pen

theorem State.chargeHeads_eq (a : Active) (s : State) : s.chargeHeads a = (s.chargedSet a).noHeadsTest := rfl

theorem State.chargedSet_get (a : Active) (s : State) (h : Head) : (s.chargedSet a).heads.get h =
    { (s.chargeSet a.kind a.pen).heads.get h with
      trimmer := if a.kind = .trim then false else ((s.chargeSet a.kind a.pen).heads.get h).trimmer } := by
  unfold State.chargedSet
  split
  · exact State.trimmersOff_get _ h
  · rfl

theorem State.chargedSet_eq (a : Active) (s : State) :
    s.chargedSet a = { s.chargeSet a.kind a.pen with heads := (s.chargedSet a).heads } := by
  unfold State.chargedSet
  split <;> rfl

/-- The record in progress is no longer in progress or pending. -/
def State.recordDone (s : State) : State := { s with shaft := { s.shaft with active := none, pendingFlag := false } }

theorem State.completeRecord_of_jump {a : Active} (active : s.shaft.active = some a) (jump : a.kind = .jump) :
    s.completeRecord = s.recordDone := by
  simp only [State.completeRecord, active, jump]
  rfl

theorem RevKind.penetrates_iff (k : RevKind) : k.penetrates = true ↔ k ≠ .jump := by cases k <;> simp [RevKind.penetrates]

theorem State.completeRecord_of_stitch {a : Active} (active : s.shaft.active = some a) (stitch : a.kind ≠ .jump) :
    s.completeRecord = (s.recordDone.chargedSet a).noHeadsTest := by
  simp only [State.completeRecord, active]
  exact if_pos ((RevKind.penetrates_iff _).2 stitch)

theorem State.anySound_iff (s : State) : s.anySound = true ↔ ∃ h, (s.heads.get h).state.isSound = true := by
  simp [State.anySound, mem_allHeads]

theorem State.noHeadsTest_sound (h : s.anySound = true) : s.noHeadsTest = s := if_pos h

theorem State.noHeadsTest_none (h : s.anySound = false) : s.noHeadsTest = s.requestStop .noHeads :=
  if_neg (by simp [h])

theorem State.noHeadsTest_charges (s : State) : s.charges s.noHeadsTest := by
  unfold State.noHeadsTest
  split
  · exact State.charges.refl s
  · exact ⟨by rw [State.requestStop_eq], fun n => by simp⟩

end Sys2Proof.Machine
end

section
/-! PROOFS. The thread charge, settled (R93, R107, R137, R138, R140 to R144, R150). -/

namespace Sys2Proof.Machine

variable {s t : State} {h : Head} {k : RevKind} {cause : BreakCause}

theorem State.onHead.store (w : s.onHead h t) : t.store = s.store := by rw [w.frame]

theorem State.onHead.queue (w : s.onHead h t) : t.queue = s.queue := by rw [w.frame]

theorem State.onHead.frameUnit (w : s.onHead h t) : t.frame = s.frame := by rw [w.frame]

theorem State.entries_looseHead_ne {key : Key} (apart : key ≠ .threadLoose h) (s : State) :
    (s.looseHead h).entries key = s.entries key := State.entries_openCause_ne apart ..

/-! ## The charge of a head, outcome by outcome -/

/-- A head whose charge gives no break and no loose outcome. -/
theorem State.sound_outcome {y : State} (same : y = { s.charged k h with conditions := y.conditions, changes := y.changes })
    (looses : y.entries (.threadLoose h) = s.entries (.threadLoose h)) (sound : s.conditionsSound → y.conditionsSound) :
    let t := (y.quietHead h).regrace k h
    let quiet := lowerQuiet (s.heads.get h).looseQuiet
    t = { s with
      heads := s.heads.set h { s.heads.get h with
        balance := s.chargedBalance k h, meter := (s.heads.get h).meter + s.config.demand k
        grace := if k = .trim then 2 else (s.heads.get h).grace - 1, looseQuiet := quiet }
      conditions := t.conditions, changes := t.changes } ∧
    ((s.heads.get h).looseQuiet = none ∨ quiet ≠ none →
      t.condition? (.threadLoose h) = s.condition? (.threadLoose h)) ∧
    ((s.heads.get h).looseQuiet ≠ none → quiet = none → s.conditionsSound → t.causeOpen (.threadLoose h) = false) := by
  intro t quiet
  have heads : y.heads = (s.charged k h).heads := by rw [same]
  have record : y.heads.get h = (s.charged k h).heads.get h := by rw [heads]
  have loose : (y.heads.get h).looseQuiet = (s.heads.get h).looseQuiet := by rw [record, State.charged_get]
  refine ⟨?_, fun kept => ?_, fun counts last good => ?_⟩
  · have ends : t = _ := State.calmed_eq y
    rw [record, State.charged_get, heads, State.charged, State.setHead, Table.set_set] at ends
    rw [ends, same]
    rfl
  · refine State.condition?_of_entries ?_
    rw [State.entries_regrace, State.entries_quietHead_kept y (by rwa [loose]), looses]
  · rw [State.causeOpen_of_entries (State.entries_regrace _ _)]
    exact State.quietHead_clears y (sound good) (by rwa [loose]) (by rwa [loose])

/-- The record that a break makes of a head, behind the loose-quiet count and the grace. -/
theorem State.calmed_break (x : State) :
    (((x.breakHead h cause).quietHead h).regrace k h).heads.get h = { (x.breakHead h cause).heads.get h with
      looseQuiet := ((((x.breakHead h cause).quietHead h).regrace k h).heads.get h).looseQuiet
      grace := if k = .trim then 2 else (x.heads.get h).grace } := by
  have grace : ((x.breakHead h cause).heads.get h).grace = (x.heads.get h).grace := by
    rw [x.breakHead_get.1, Table.get_set_self]; rfl
  rw [State.calmed_eq, Table.get_set_self, HeadRecord.calmed, grace]

theorem State.regraced_break (x : State) :
    ((x.breakHead h cause).regrace k h).heads.get h = { (x.breakHead h cause).heads.get h with
      looseQuiet := (((x.breakHead h cause).regrace k h).heads.get h).looseQuiet
      grace := if k = .trim then 2 else (x.heads.get h).grace } := by
  have grace : ((x.breakHead h cause).heads.get h).grace = (x.heads.get h).grace := by
    rw [x.breakHead_get.1, Table.get_set_self]; rfl
  rw [State.regrace_heads, Table.get_set_self, grace]

theorem State.mendOrdinal_eq (s : State) :
    s.mendOrdinal = max (min (s.run.blockStart + 1) 4294967295) (s.run.ordinal - s.config.mendLead) := rfl

/-- What a break leaves of the run and the shaft, by the policy. -/
theorem State.chargeHead_policy (breaks : s.breaksAt k h) :
    (s.run.state = .running → s.shaft.stopReq = .none → s.config.breakPolicy = .stop →
      (s.chargeHead k h).run.state = .stopping ∧ (s.chargeHead k h).run.reason = .breakStop ∧
      (s.chargeHead k h).run.pendingStop = true ∧ (s.chargeHead k h).shaft.stopReq = .controlled) ∧
    (s.config.breakPolicy = .runOn ∨ s.run.state = .stopped →
      (s.chargeHead k h).run = s.run ∧ (s.chargeHead k h).shaft = s.shaft) := by
  refine ⟨fun running free policy => ?_, fun goesOn => State.chargeHead_goesOn (.inr ?_)⟩
  · have ⟨run, shaft⟩ := State.chargeHead_stop breaks (by simp [State.sewing, running]) policy
    rw [State.requestStop_running running free] at run shaft
    rw [run, shaft]
    exact ⟨rfl, rfl, rfl, rfl⟩
  · rcases goesOn with policy | stopped
    · exact .inr (by rw [policy]; nofun)
    · exact .inl (by simp [State.sewing, stopped])

theorem demand_of_charge {cfg : Configuration} {demand : Nat}
    (charges : (∃ dx dy : Int, k = .stitch dx dy ∧ demand =
      max dx.natAbs dy.natAbs + min dx.natAbs dy.natAbs / 2 + cfg.loopAllowance) ∨
      k = .trim ∧ demand = cfg.loopAllowance) : demand = cfg.demand k := by
  rcases charges with ⟨dx, dy, rfl, rfl⟩ | ⟨rfl, rfl⟩ <;> rfl

/-- A loose outcome, whatever the bobbin's test gives. -/
theorem State.loose_outcome {x y : State} (heads : (y.heads.get h).looseQuiet = some x.config.looseQuiet ∧
      (y.heads.get h).balance = 0) (looses : y.entries (.threadLoose h) = (x.looseHead h).entries (.threadLoose h)) :
    ((y.regrace k h).heads.get h).looseQuiet = some x.config.looseQuiet ∧ ((y.regrace k h).heads.get h).balance = 0 ∧
      ∃ c, (y.regrace k h).condition? (.threadLoose h) = some c ∧ c.state = .opened ∧ c.needle = x.run.needle ∧
        c.ordinal = x.run.ordinal ∧ c.position = x.run.chain := by
  rw [State.regrace_heads, Table.get_set_self]
  refine ⟨heads.1, heads.2, ?_⟩
  rw [State.condition?_of_entries ((State.entries_regrace _ _).trans looses)]
  exact x.condition?_looseHead

/-! ## The completion point -/

theorem State.chargedSet_charges (a : Active) (s : State) : s.charges (s.chargedSet a) := by
  have charged := s.chargeSet_charges a.kind a.pen
  unfold State.chargedSet
  split
  · exact charged.trans ⟨rfl, fun _ => rfl⟩
  · exact charged

theorem State.completeRecord_charges {a : Active} (active : s.shaft.active = some a) :
    s.recordDone.charges s.completeRecord := by
  by_cases jump : a.kind = .jump
  · rw [State.completeRecord_of_jump active jump]
    exact State.charges.refl _
  · rw [State.completeRecord_of_stitch active jump]
    exact (State.chargedSet_charges a _).trans (State.noHeadsTest_charges _)

/-- Equal views have the same entries of the head's three keys. -/
theorem State.entries_of_view {key : Key} (view : s.headView h = t.headView h)
    (mem : key ∈ [Key.threadBreak h, .threadLoose h, .bobbinLow h]) : s.entries key = t.entries key := by
  simp only [State.headView, Prod.mk.injEq] at view
  obtain ⟨-, -, breaks, looses, lows⟩ := view
  simp only [List.mem_cons, List.not_mem_nil, or_false] at mem
  rcases mem with rfl | rfl | rfl
  · exact breaks
  · exact looses
  · exact lows

theorem State.noHeadsTest_of_held (h : s.run.state = .stopped ∨ s.run.state = .stopping ∧ s.shaft.stopReq ≠ .none) :
    s.noHeadsTest = s := by
  unfold State.noHeadsTest
  split
  · rfl
  · exact State.requestStop_idempotent h

theorem State.conditionsSound_testBobbin (left_ : (s.heads.get h).meter < s.config.bobbinSu) (sound : s.conditionsSound) :
    (s.testBobbin h).conditionsSound := by
  unfold State.testBobbin
  dsimp only
  rw [if_neg (Nat.not_le.2 left_)]
  split
  · exact State.conditionsSound_openCause sound ..
  · exact sound

end Sys2Proof.Machine

namespace Sys2Proof.Proofs
open Sys2Proof.Machine

/-- Settles O44. -/
theorem threadCharge : Obligations.ThreadCharge := by
  refine ⟨fun s h k demand charges => ?_, fun s a active => ?_⟩
  · intro r balance meter grace quiet charged t cfg capacity warning loose sound broken warned looseFound
    obtain rfl : demand = s.config.demand k := demand_of_charge charges
    have work := State.onHead.chargeHead k h s
    have meterOf : ((s.charged k h).heads.get h).meter = meter := by rw [State.charged_get]
    have looseMeter : (((s.charged k h).looseHead h).heads.get h).meter = meter := by
      rw [State.looseHead_heads, Table.get_set_self, meterOf]
    have breaksFrom {cause : BreakCause} {x : State} (found : s.breaksAt k h) (run : x.run = s.run)
        (config : x.config = s.config) (meterX : (x.heads.get h).meter = meter) (graceX : (x.heads.get h).grace = r.grace)
        (record : t.heads.get h = { (x.breakHead h cause).heads.get h with
          looseQuiet := (t.heads.get h).looseQuiet, grace := if k = .trim then 2 else (x.heads.get h).grace })
        (needles : t.needles = (x.breakHead h cause).needles)
        (cond : t.entries (.threadBreak h) = (x.breakHead h cause).entries (.threadBreak h)) : broken cause := by
      have outcome := State.broken_outcome record needles cond
      rw [State.mendOrdinal_eq, run, config, meterX, graceX] at outcome
      obtain ⟨state, emptied, spent, graced, struck, opened⟩ := outcome
      obtain ⟨stops, goesOn⟩ := State.chargeHead_policy found
      exact ⟨state, emptied, spent, graced, struck, opened, stops, goesOn⟩
    refine ⟨work.records, work.store, work.queue, work.frameUnit, fun spared => ?_, fun tested within whole room => ?_, fun tested above => ?_,
      fun tested within spent => ?_, fun tested within slack room => ?_⟩
    · have ends : t = _ := State.chargeHead_spared spared
      clear breaksFrom
      clear_value t
      subst ends
      refine ⟨State.sound_outcome rfl rfl id, State.condition?_of_entries ?_⟩
      rw [State.entries_regrace, State.entries_quietHead_ne (by simp)]
      rfl
    · have ends : t = _ := State.chargeHead_whole tested within (not_lt.1 whole)
      have left_ : ((s.charged k h).heads.get h).meter < (s.charged k h).config.bobbinSu := meterOf ▸ room
      clear breaksFrom
      clear_value t
      subst ends
      refine ⟨?_, fun plain => State.condition?_of_entries ?_, fun warns closed => ?_⟩
      · refine State.sound_outcome (State.testBobbin_eq left_) ?_ (State.conditionsSound_testBobbin left_)
        exact State.entries_testBobbin_ne left_ (by simp)
      · rw [State.entries_regrace, State.entries_quietHead_ne (by simp), State.testBobbin_plain left_ (by rwa [meterOf])]
        rfl
      · rw [State.condition?_of_entries ((State.entries_regrace _ _).trans (State.entries_quietHead_ne (by simp) _)),
          ← meterOf]
        exact State.testBobbin_warned left_ (by rwa [meterOf]) closed
    · have ends : t = _ := State.chargeHead_upper tested above
      refine breaksFrom (x := s.charged k h) ⟨tested, .inl above⟩ rfl rfl meterOf ?_ ?_ ?_ ?_
      · rw [State.charged_get, show r.grace = 0 from tested]
      · rw [ends]; exact State.calmed_break _
      · rw [ends, State.calmed_eq]
      · rw [ends, State.entries_regrace, State.entries_quietHead_ne (by simp)]
    · have found : s.breaksAt k h := ⟨tested, .inr spent⟩
      rcases lt_or_ge (s.chargedBalance k h) (-(s.config.looseThreshold : Int)) with slack | whole
      · have ends : t = _ := State.chargeHead_loose tested within slack
        rw [State.testBobbin_spent (by rw [looseMeter]; exact spent)] at ends
        refine ⟨breaksFrom (x := (s.charged k h).looseHead h) found rfl rfl looseMeter ?_ ?_ ?_ ?_, fun _ => ?_⟩
        · rw [State.looseHead_heads, Table.get_set_self, State.charged_get, show r.grace = 0 from tested]
        · rw [ends]; exact State.regraced_break _
        · rw [ends, State.regrace_eq]
        · rw [ends, State.entries_regrace]
        · clear breaksFrom
          clear_value t
          subst ends
          refine State.loose_outcome (x := s.charged k h) ?_ (State.entries_breakHead_ne (by simp) _)
          rw [(State.breakHead_get _).1, Table.get_set_self, State.looseHead_heads, Table.get_set_self]
          exact ⟨rfl, rfl⟩
      · have ends : t = _ := State.chargeHead_whole tested within whole
        rw [State.testBobbin_spent (by rw [meterOf]; exact spent)] at ends
        refine ⟨breaksFrom (x := s.charged k h) found rfl rfl meterOf ?_ ?_ ?_ ?_, fun slack => absurd slack (not_lt.2 whole)⟩
        · rw [State.charged_get, show r.grace = 0 from tested]
        · rw [ends]; exact State.calmed_break _
        · rw [ends, State.calmed_eq]
        · rw [ends, State.entries_regrace, State.entries_quietHead_ne (by simp)]
    · have ends : t = _ := State.chargeHead_loose tested within slack
      have left_ : (((s.charged k h).looseHead h).heads.get h).meter < ((s.charged k h).looseHead h).config.bobbinSu :=
        looseMeter ▸ room
      have goesOn := State.chargeHead_goesOn (s := s) (k := k) (h := h) (.inl fun found =>
        found.2.elim (not_lt.2 within) (Nat.not_le.2 room))
      have heads : t.heads.get h = { ((s.charged k h).looseHead h).heads.get h with
          grace := if k = .trim then 2 else (((s.charged k h).looseHead h).heads.get h).grace } := by
        rw [ends, State.regrace_heads, Table.get_set_self, State.testBobbin_eq left_]
      refine ⟨?_, ?_, ?_, goesOn.1, goesOn.2, fun warns closed => ?_⟩
      · clear heads goesOn breaksFrom
        clear_value t
        subst ends
        refine State.loose_outcome (x := s.charged k h) ?_ (State.entries_testBobbin_ne left_ (by simp))
        rw [State.testBobbin_eq left_, State.looseHead_heads, Table.get_set_self]
        exact ⟨rfl, rfl⟩
      · rw [heads, State.looseHead_heads, Table.get_set_self, State.charged_get]
      · rw [heads, State.looseHead_heads, Table.get_set_self, State.charged_get]
      · have warned' := State.testBobbin_warned left_ (by rw [looseMeter]; exact warns)
          (by rw [State.causeOpen_of_entries (State.entries_looseHead_ne (by simp) _)]; exact closed)
        rw [looseMeter] at warned'
        clear heads goesOn breaksFrom
        clear_value t
        subst ends
        rw [State.condition?_of_entries (State.entries_regrace _ _)]
        exact warned'
  · intro t one breaks
    refine ⟨(State.completeRecord_charges active).frame, State.completeRecord_of_jump active, fun stitch => ?_⟩
    have ends : t = (s.recordDone.chargedSet a).noHeadsTest := State.completeRecord_of_stitch active stitch
    have alike (h : Head) : s.recordDone.seesSame h s := ⟨rfl, rfl, rfl, rfl, rfl, rfl, fun _ => rfl, rfl, rfl, rfl⟩
    have views (h : Head) : (s.recordDone.chargeSet a.kind a.pen).headView h =
        if a.pen.get h then (one h).headView h else s.headView h := by
      rw [State.chargeSet_view, ((alike h).chargeHead a.kind).view, (alike h).view]
    have charged := s.recordDone.chargedSet_eq a
    have heads : t.heads = (s.recordDone.chargedSet a).heads := by rw [ends]; simp
    have needles : t.needles = (s.recordDone.chargeSet a.kind a.pen).needles := by
      rw [ends, State.noHeadsTest_needles, charged]
    have conditions : t.conditions = (s.recordDone.chargeSet a.kind a.pen).conditions := by
      rw [ends, State.noHeadsTest_conditions, charged]
    have asks (h : Head) : s.recordDone.asksStop a.kind h ↔ s.asksStop a.kind h := State.asksStop_congr rfl rfl rfl
    refine ⟨fun h => ?_, fun n => ⟨(State.completeRecord_charges active).threads n, fun h => ?_⟩, fun h key mem => ?_,
      fun running free => ?_, fun held => ?_⟩
    · have record := (congrArg Prod.fst (views h)).trans (apply_ite Prod.fst ..)
      rw [heads, State.chargedSet_get]
      change (s.recordDone.chargeSet a.kind a.pen).heads.get h = _ at record
      rw [record]
      rfl
    · have states := (congrFun (congrArg (fun v => v.2.1) (views h)) n)
      rw [needles]
      refine states.trans ?_
      split <;> rfl
    · have entries : t.entries key = (s.recordDone.chargeSet a.kind a.pen).entries key := by
        unfold State.entries
        rw [conditions]
      have view := views h
      rw [State.condition?_eq, entries]
      split at view
      · rename_i pierced
        rw [if_pos pierced, State.condition?_eq, State.entries_of_view view mem]
      · rename_i spared
        rw [if_neg spared, State.condition?_eq, State.entries_of_view view mem]
    · obtain ⟨stops, goesOn⟩ := State.chargeFold_running (s := s.recordDone) a.kind a.pen allHeads_nodup running free
      have runs : (s.recordDone.chargedSet a).run = (s.recordDone.chargeSet a.kind a.pen).run := by rw [charged]
      have shafts : (s.recordDone.chargedSet a).shaft = (s.recordDone.chargeSet a.kind a.pen).shaft := by rw [charged]
      have unasked (quiet : ¬breaks) : (s.recordDone.chargedSet a).run = s.run ∧
          (s.recordDone.chargedSet a).shaft = s.recordDone.shaft := by
        have ⟨run, shaft⟩ := goesOn fun h _ pierced asked =>
          quiet ⟨h, pierced, (State.asksStop_iff running free).1 ((asks h).1 asked)⟩
        exact ⟨runs.trans run, shafts.trans shaft⟩
      refine ⟨fun ⟨h, pierced, stopping⟩ => ?_, fun quiet none_ => ?_, fun quiet ⟨h, sound⟩ => ?_⟩
      · have ⟨run, shaft⟩ := stops ⟨h, mem_allHeads h, pierced, (asks h).2 ((State.asksStop_iff running free).2 stopping)⟩
        rw [State.requestStop_running (s := s.recordDone) running free] at run shaft
        have run' : (s.recordDone.chargedSet a).run = _ := runs.trans run
        have shaft' : (s.recordDone.chargedSet a).shaft = _ := shafts.trans shaft
        rw [ends, State.noHeadsTest_of_held (.inr ⟨by rw [run'], by rw [shaft']; nofun⟩), run', shaft']
        exact ⟨rfl, rfl⟩
      · have ⟨run, shaft⟩ := unasked quiet
        have silent : (s.recordDone.chargedSet a).anySound = false := by
          rw [Bool.eq_false_iff, ne_eq, State.anySound_iff, ← heads]
          rintro ⟨h, sound⟩
          rw [none_ h] at sound
          cases sound
        rw [ends, State.noHeadsTest_none silent, State.requestStop_running (run ▸ running) (shaft ▸ free), run]
        exact ⟨rfl, rfl⟩
      · have ⟨run, shaft⟩ := unasked quiet
        rw [ends, State.noHeadsTest_sound ((State.anySound_iff _).2 ⟨h, heads ▸ sound⟩), run, shaft]
        exact ⟨rfl, rfl⟩
    · have ⟨run, shaft⟩ := State.chargeFold_keeps (s := s.recordDone) a.kind a.pen allHeads held
      have run' : (s.recordDone.chargedSet a).run = s.run := by rw [charged]; exact run
      have shaft' : (s.recordDone.chargedSet a).shaft = s.recordDone.shaft := by rw [charged]; exact shaft
      rw [ends, State.noHeadsTest_of_held (by rw [run', shaft']; exact held), run', shaft']
      exact ⟨rfl, rfl⟩

end Sys2Proof.Proofs
end

section
/-! PROOFS. The emergency halt (R108, R127, R169, R170), a count change and the window-close crossing (R91, R92, R97). -/

namespace Sys2Proof.Machine

variable {s t : State}

/-! ## The emergency halt -/

/-- The units as an emergency halt leaves them, before the run is HALTED. -/
def State.unitsHalted (s : State) : State :=
  { s with
    shaft := s.shaft.halt
    frame := s.haltedFrame
    carriage := { s.carriage with state := .idle }
    heads := s.heads.map fun r => { r with trimmer := false, latch := r.latch && !s.shaft.atRest } }

theorem Table.map_map {α β γ : Type} {n : Nat} (f : α → β) (g : β → γ) (t : Table n α) :
    (t.map f).map g = t.map fun a => g (f a) := Table.ext_get fun i => by simp

theorem State.emergencyHalt_eq (reason : StopReason) (s : State) :
    s.emergencyHalt reason = s.unitsHalted.enterHalted reason := by
  unfold State.emergencyHalt
  congr 1
  unfold State.latchesOffAtRest State.trimmersOff State.latchesOff State.unitsHalted
  cases rest : s.shaft.atRest <;> simp [rest, Table.map_map]

theorem Shaft.halt_eq_state (sh : Shaft) : sh.halt = { sh with
    state := if sh.atRest = true ∨ sh.enable = false ∧ sh.state = .still then .still else .coasting
    command := 0, enable := false, backoff := false, active := none, pendingFlag := false } := by
  unfold Shaft.halt Shaft.release
  by_cases off : sh.enable = false ∧ sh.state = .still
  · rw [if_pos off, if_pos (Or.inr off)]
  · rw [if_neg off]
    by_cases rest : sh.atRest = true
    · rw [if_pos rest, if_pos (Or.inl rest)]
    · rw [if_neg rest, if_neg (not_or.2 ⟨rest, off⟩)]

/-- What an emergency halt leaves (R108, R127, R169, R170). -/
def State.haltedAs (s : State) (reason : StopReason) (t : State) : Prop :=
  t.shaft = { s.shaft with
              state := if s.shaft.atRest = true ∨ s.shaft.enable = false ∧ s.shaft.state = .still then .still
                       else .coasting
              command := 0, enable := false, backoff := false, active := none, pendingFlag := false
              stopReq := t.shaft.stopReq } ∧
  t.frame = s.haltedFrame ∧ t.carriage = { s.carriage with state := .idle } ∧
  (∀ h, t.heads.get h = { s.heads.get h with
                          trimmer := false
                          latch := (s.heads.get h).latch && !s.shaft.atRest }) ∧
  t.lastGranted = s.lastGranted ∧
  t.burst = (if s.run.state = .idle ∨ s.run.state = .halted then s.burst else s.idledBurst) ∧
  (s.run.state = .idle → t.run = s.run) ∧
  (s.run.state ≠ .idle → t.run.state = .halted ∧ t.run.reason = reason ∧
    t.run.ordinal = s.run.ordinal ∧ t.run.frontier = s.run.frontier ∧ t.run.blockStart = s.run.blockStart) ∧
  (s.run.state ≠ .idle → s.run.state ≠ .halted →
    t.queue = [] ∧ t.feed.activity = .idle ∧ t.shaft.stopReq = .none ∧ t.run.pendingStop = false ∧
    t.link.runChange = true) ∧
  (s.run.state = .running ∨ s.run.state = .stopping ∨ s.run.state = .changing →
    t.run.resume = match s.queue with | e :: _ => some e.pos | [] => some s.feed.fetch) ∧
  (s.run.state = .stopped ∨ s.run.state = .backing ∨ s.run.state = .halted → t.run.resume = s.run.resume) ∧
  t.config = s.config ∧ t.store = s.store ∧ t.designs = s.designs ∧ t.needles = s.needles ∧ t.enable = s.enable

section Halted

variable (reason : StopReason)

theorem State.enterHalted_of_idle (h : s.run.state = .idle) : s.enterHalted reason = s := by
  simp only [State.enterHalted, h]

theorem State.enterHalted_of_halted (h : s.run.state = .halted) :
    s.enterHalted reason = { s with run := { s.run with reason := reason } } := by
  simp only [State.enterHalted, h]

theorem State.enterHalted_of_sewing (h : s.run.state = .running ∨ s.run.state = .stopping ∨ s.run.state = .changing) :
    s.enterHalted reason =
      { s with run := { s.run with state := .halted, reason := reason, resume := s.holdPoint } }.flush := by
  rcases h with h | h | h <;> simp only [State.enterHalted, h]

/-- A held run is HALTED with the resume point it has (R170). -/
theorem State.enterHalted_of_held (h : s.run.state = .stopped ∨ s.run.state = .backing) :
    ∃ walk done, s.enterHalted reason = { s with
      walk := walk, run := { s.run with state := .halted, reason := reason, lastTrace := done } }.flush := by
  rcases h with h | h <;> simp only [State.enterHalted, h]
  · exact ⟨s.walk, s.run.lastTrace, rfl⟩
  · exact ⟨none, _, rfl⟩

end Halted

/-- The head's outputs at an emergency halt. -/
theorem State.unitsHalted_head (s : State) (h : Head) : s.unitsHalted.heads.get h =
    { s.heads.get h with trimmer := false, latch := (s.heads.get h).latch && !s.shaft.atRest } := Table.get_map ..

theorem State.emergencyHalt_haltedAs (s : State) (reason : StopReason) : s.haltedAs reason (s.emergencyHalt reason) := by
  have shaft := Shaft.halt_eq_state s.shaft
  have held {x : State} (same : x = { s.unitsHalted with walk := x.walk, run := x.run })
      (idle : s.run.state ≠ .idle) (halted : s.run.state ≠ .halted) : x.flush.shaft =
        { s.shaft with
          state := if s.shaft.atRest = true ∨ s.shaft.enable = false ∧ s.shaft.state = .still then .still else .coasting
          command := 0, enable := false, backoff := false, active := none, pendingFlag := false
          stopReq := .none } ∧
      (∀ h, x.flush.heads.get h = { s.heads.get h with
        trimmer := false, latch := (s.heads.get h).latch && !s.shaft.atRest }) ∧
      x.flush.burst = (if s.run.state = .idle ∨ s.run.state = .halted then s.burst else s.idledBurst) := by
    rw [if_neg (not_or.2 ⟨idle, halted⟩), same]
    refine ⟨?_, s.unitsHalted_head, rfl⟩
    change { s.shaft.halt with stopReq := .none } = _
    rw [shaft]
  have own : s.shaft.halt = { s.shaft with
      state := if s.shaft.atRest = true ∨ s.shaft.enable = false ∧ s.shaft.state = .still then .still else .coasting
      command := 0, enable := false, backoff := false, active := none, pendingFlag := false
      stopReq := s.shaft.halt.stopReq } := by rw [shaft]
  rw [State.emergencyHalt_eq]
  cases state : s.run.state with
  | idle =>
    rw [State.enterHalted_of_idle (s := s.unitsHalted) reason state]
    refine ⟨own, rfl, rfl, s.unitsHalted_head, rfl, (if_pos (.inl state)).symm, fun _ => rfl,
      fun run => absurd state run, fun run => absurd state run, fun run => ?_, fun run => ?_, rfl, rfl, rfl, rfl, rfl⟩
    all_goals simp [state] at run
  | halted =>
    rw [State.enterHalted_of_halted (s := s.unitsHalted) reason state]
    refine ⟨own, rfl, rfl, s.unitsHalted_head, rfl, (if_pos (.inr state)).symm, fun idle => ?_,
      fun _ => ⟨state, rfl, rfl, rfl, rfl⟩, fun _ run => absurd state run, fun run => ?_, fun _ => rfl,
      rfl, rfl, rfl, rfl, rfl⟩
    · simp [state] at idle
    · simp [state] at run
  | running | stopping | changing =>
    rw [State.enterHalted_of_sewing reason (by simp [State.unitsHalted, state])]
    obtain ⟨sh, heads, burst⟩ := held (x := { s.unitsHalted with run := _ }) rfl (by simp [state]) (by simp [state])
    refine ⟨sh, rfl, rfl, heads, rfl, burst, fun idle => ?_, fun _ => ⟨rfl, rfl, rfl, rfl, rfl⟩,
      fun _ _ => ⟨rfl, rfl, rfl, rfl, rfl⟩, fun _ => ?_, fun run => ?_, rfl, rfl, rfl, rfl, rfl⟩
    · simp [state] at idle
    · change s.holdPoint = _
      rfl
    · simp [state] at run
  | stopped | backing =>
    obtain ⟨walk, done, eq⟩ := State.enterHalted_of_held (s := s.unitsHalted) reason (by simp [State.unitsHalted, state])
    rw [eq]
    obtain ⟨sh, heads, burst⟩ := held (x := { s.unitsHalted with walk := walk, run := _ }) rfl (by simp [state])
      (by simp [state])
    refine ⟨sh, rfl, rfl, heads, rfl, burst, fun idle => ?_, fun _ => ⟨rfl, rfl, rfl, rfl, rfl⟩,
      fun _ _ => ⟨rfl, rfl, rfl, rfl, rfl⟩, fun run => ?_, fun _ => rfl, rfl, rfl, rfl, rfl, rfl⟩
    · simp [state] at idle
    · simp [state] at run

theorem State.emergencyHalt_kept (reason : StopReason) (s : State) : (s.emergencyHalt reason).haltLine = s.haltLine ∧
    (s.emergencyHalt reason).conditions = s.conditions := by
  rw [State.emergencyHalt_eq]
  unfold State.enterHalted
  dsimp only
  split <;> exact ⟨rfl, rfl⟩

/-! ## A count change -/

theorem State.shaftMoved_idle (h : s.carriage.state = .idle) : s.shaftMoved = s := by
  simp only [State.shaftMoved, h]

/-- The band check of a shaft that is not at rest (R92). -/
theorem Shaft.bandCheck_turning (cfg : Configuration) {sh : Shaft} (turns : sh.atRest = false) :
    sh.bandCheck cfg = { sh with
      command := if inBand cfg sh.angle = true ∧ (sh.state = .parking ∨ sh.state = .positioning ∧ sh.pendingFlag = false)
        then 0 else sh.command } := by
  unfold Shaft.bandCheck
  split
  · rename_i band; simp [turns]
  · rfl

/-- A count change with no carriage step in progress moves the shaft alone (R91, R92, R121). -/
theorem State.turnTo_eq (count : BitVec 10) (made : Bool) (calm : s.shaft.atRest = false ∨ s.carriage.state = .idle) :
    s.turnTo count made = { s with shaft := { s.shaft with
      angle := count, crossed := made, atRest := false
      command := if inBand s.config count = true ∧ (s.shaft.state = .parking ∨
                    s.shaft.state = .positioning ∧ s.shaft.pendingFlag = false) then 0
                 else s.shaft.command } } := by
  have still : (if s.shaft.atRest then
      State.shaftMoved { s with shaft := { s.shaft with angle := count, atRest := false, crossed := made } }
      else { s with shaft := { s.shaft with angle := count, atRest := false, crossed := made } }) =
      { s with shaft := { s.shaft with angle := count, atRest := false, crossed := made } } := by
    rcases calm with turns | idle
    · rw [if_neg (by simp [turns])]
    · rw [State.shaftMoved_idle (by exact idle), ite_self]
  unfold State.turnTo
  dsimp only
  rw [still, State.bandCheck, Shaft.bandCheck_turning _ rfl]

theorem succ_ne_angle (a : BitVec 10) : a + 1 ≠ a := by bv_omega

/-! ## The crossings by their command and by the count -/

theorem exec_windowOpen_again (crossed : s.shaft.crossed = true) (at_ : s.shaft.angle = countOf s.config.windowOpen) :
    exec .windowOpenCrossing s = .next { s with shaft := { s.shaft with crossed := false } } := by
  change execWindowOpenCrossing s = _
  simp [execWindowOpenCrossing, State.crossedAlready, crossed, at_]

theorem exec_windowClose_again (crossed : s.shaft.crossed = true) (at_ : s.shaft.angle = countOf s.config.windowClose) :
    exec .windowCloseCrossing s = .next { s with shaft := { s.shaft with crossed := false } } := by
  change execWindowCloseCrossing s = _
  simp [execWindowCloseCrossing, State.crossedAlready, crossed, at_]

theorem State.crossedAlready_eq_false {a : BitVec 10} (h : s.shaft.crossed = false ∨ s.shaft.angle ≠ a) :
    s.crossedAlready a = false := by
  rcases h with h | h <;> simp [State.crossedAlready, h]

theorem exec_windowOpen (h : s.shaft.crossed = false ∨ s.shaft.angle ≠ countOf s.config.windowOpen) :
    exec .windowOpenCrossing s = .next (s.turnTo (countOf s.config.windowOpen) false).windowOpen.arbitrate := by
  change execWindowOpenCrossing s = _
  simp [execWindowOpenCrossing, State.crossedAlready_eq_false h]

theorem exec_windowClose (h : s.shaft.crossed = false ∨ s.shaft.angle ≠ countOf s.config.windowClose) :
    exec .windowCloseCrossing s = .next (s.turnTo (countOf s.config.windowClose) false).windowClose := by
  change execWindowCloseCrossing s = _
  simp [execWindowCloseCrossing, State.crossedAlready_eq_false h]

section Count

variable {c : BitVec 10}

theorem exec_count_windowOpen (forward : c = s.shaft.angle + 1) (opens : c = countOf s.config.windowOpen) :
    exec (.encoderCountChange c) s = .next (s.turnTo c true).windowOpen.arbitrate := by
  have moved : c ≠ s.shaft.angle := forward ▸ succ_ne_angle _
  change execEncoderCountChange c s = _
  rw [execEncoderCountChange, if_neg moved, if_pos (by rw [decide_eq_true forward, decide_eq_true opens]; rfl)]

theorem exec_count_windowClose (forward : c = s.shaft.angle + 1) (apart : c ≠ countOf s.config.windowOpen)
    (closes : c = countOf s.config.windowClose) :
    exec (.encoderCountChange c) s = .next (s.turnTo c true).windowClose := by
  have moved : c ≠ s.shaft.angle := forward ▸ succ_ne_angle _
  change execEncoderCountChange c s = _
  rw [execEncoderCountChange, if_neg moved, if_neg (by rw [decide_eq_false apart, Bool.and_false]; nofun),
    if_pos (by rw [decide_eq_true forward, decide_eq_true closes]; rfl)]

theorem exec_count_plain (moved : c ≠ s.shaft.angle)
    (plain : c = s.shaft.angle + 1 → c ≠ countOf s.config.windowOpen ∧ c ≠ countOf s.config.windowClose) :
    exec (.encoderCountChange c) s = .next (s.turnTo c false) := by
  have quiet (a : BitVec 10) (apart : c = s.shaft.angle + 1 → c ≠ a) :
      ¬((decide (c = s.shaft.angle + 1) && decide (c = a)) = true) := by
    rw [Bool.and_eq_true, decide_eq_true_iff, decide_eq_true_iff]
    exact fun both => apart both.1 both.2
  change execEncoderCountChange c s = _
  rw [execEncoderCountChange, if_neg moved, if_neg (quiet _ fun forward => (plain forward).1),
    if_neg (quiet _ fun forward => (plain forward).2)]

end Count

/-! ## The window-close crossing -/

theorem FrameUnit.sewingInFlight_iff (f : FrameUnit) :
    f.sewingInFlight = true ↔ f.followOn ≠ none ∨ ∃ m, f.state = .moving m ∧ m.kind = .sewing := by
  unfold FrameUnit.sewingInFlight
  cases f.state <;> simp [Option.isSome_iff_ne_none, or_comm]

theorem State.overrun_late (late : s.frame.sewingInFlight = true) : s.overrun = { s with
    frame := { s.frame with overruns := min 65535 (s.frame.overruns + 1) }
    shaft := { s.shaft with backoff := true } } := if_pos late

theorem State.overrun_timely (timely : s.frame.sewingInFlight = false) : s.overrun = s := if_neg (by simp [timely])

/-- The trimmers of a TRIM that are due (R97, R137). -/
def State.trims (s : State) (h : Head) : Prop :=
  ∃ a, s.shaft.active = some a ∧ a.kind = .trim ∧ a.pen.get h = true ∧
    (s.shaft.state = .turning ∨ s.shaft.state = .positioning)

theorem State.fireTrimmers_eq (s : State) : s.fireTrimmers = { s with heads := s.fireTrimmers.heads } := by
  unfold State.fireTrimmers
  repeat' split
  · rfl
  · rfl
  · rfl

theorem State.fireTrimmers_get (s : State) (h : Head) :
    s.fireTrimmers.heads.get h = { s.heads.get h with trimmer := (s.fireTrimmers.heads.get h).trimmer } ∧
    ((s.fireTrimmers.heads.get h).trimmer = true ↔ (s.heads.get h).trimmer = true ∨ s.trims h) := by
  unfold State.fireTrimmers State.trims
  cases active : s.shaft.active with
  | none => exact ⟨rfl, by simp⟩
  | some a =>
    dsimp only
    split
    · rename_i due
      obtain ⟨trim, state⟩ := due
      simp [State.trimmersOn, trim, state]
    · rename_i idle
      refine ⟨rfl, ⟨.inl, fun h => h.elim id ?_⟩⟩
      rintro ⟨x, same, trim, -, state⟩
      obtain rfl : a = x := by simpa using same
      exact absurd ⟨trim, state⟩ idle

end Sys2Proof.Machine

namespace Sys2Proof.Proofs
open Sys2Proof.Machine

/-- Settles O30. -/
theorem emergencyHalt : Obligations.EmergencyHalt := by
  intro s halted
  refine ⟨fun off => ?_, fun on => ?_, fun driven => ?_⟩
  · obtain ⟨line, conditions⟩ := State.emergencyHalt_kept .haltLine { s with haltLine := true }
    refine ⟨_, ?_, State.emergencyHalt_haltedAs { s with haltLine := true } .haltLine, line, conditions⟩
    change execHaltLineActive s = _
    rw [execHaltLineActive, if_neg (by simp [off])]
  · change execHaltLineActive s = _
    rw [execHaltLineActive, if_pos on]
  · have opened := State.emergencyHalt_haltedAs (s.openCause .shaftStall none (.shaft s.shaft.state) none) .shaftStall
    obtain ⟨-, conditions⟩ :=
      State.emergencyHalt_kept .shaftStall (s.openCause .shaftStall none (.shaft s.shaft.state) none)
    refine ⟨_, ?_, opened, ?_⟩
    · change execShaftStall s = _
      rw [execShaftStall, if_pos (by simp [State.supervised, driven])]
    · obtain ⟨c, found, state, detail, needle, ordinal, position⟩ :=
        s.condition?_openCause .shaftStall none (.shaft s.shaft.state) none
      refine ⟨c, ?_, state, detail, ordinal, needle, position⟩
      unfold State.condition?
      rw [conditions]
      exact found

/-- Settles O34. -/
theorem windowClose : Obligations.WindowClose := by
  intro s angle
  refine ⟨exec_windowClose_again, fun i made calm crossing => ?_⟩
  intro late
  have turns : exec i s = .next (s.turnTo angle made).windowClose := by
    rcases crossing with ⟨rfl, rfl, fresh⟩ | ⟨rfl, rfl, forward, apart⟩
    · exact exec_windowClose fresh
    · exact exec_count_windowClose forward apart rfl
  have moved := s.turnTo_eq angle made calm
  have flight : (s.turnTo angle made).frame.sewingInFlight = true ↔ late := by
    rw [moved]; exact FrameUnit.sewingInFlight_iff _
  refine ⟨_, turns, ?_⟩
  unfold State.windowClose
  rw [State.fireTrimmers_eq]
  have fired := fun h => State.fireTrimmers_get (s.turnTo angle made).overrun h
  by_cases isLate : late
  · rw [State.overrun_late (flight.2 isLate), moved] at fired ⊢
    exact ⟨fun _ => ⟨rfl, rfl⟩, fun timely => absurd isLate timely, fired, rfl, rfl, rfl, rfl, rfl, rfl, rfl, rfl, rfl,
      rfl, rfl, rfl, rfl⟩
  · rw [State.overrun_timely (Bool.eq_false_iff.2 (mt flight.1 isLate)), moved] at fired ⊢
    exact ⟨fun h => absurd h isLate, fun _ => ⟨rfl, rfl⟩, fired, rfl, rfl, rfl, rfl, rfl, rfl, rfl, rfl, rfl,
      rfl, rfl, rfl, rfl⟩

end Sys2Proof.Proofs
end

section
/-! PROOFS. What the work at the head of the queue leaves of the link and the arbiter, and the bursts that complete
(R28, R38, R41, R43, R48). -/

namespace Sys2Proof.Machine

variable (s : State)

/-! ## What the head of the queue leaves of the link and the arbiter -/

/-- The link but for the run-change flag, the last claimant granted, and the burst in flight but for its stale
mark. -/
def State.outward : Claimant × Link × Option Burst :=
  (s.lastGranted, { s.link with runChange := false }, s.burst.map fun b => { b with stale := false })

theorem State.feedIdle_outward : s.feedIdle.outward = s.outward := by
  unfold State.outward State.feedIdle
  cases h : s.burst with
  | none => simp
  | some b => by_cases feed : b.claimant = .feed <;> simp [feed]

@[simp] theorem State.flush_outward : s.flush.outward = s.outward := s.feedIdle_outward
@[simp] theorem State.enterStopped_outward (r : StopReason) : (s.enterStopped r).outward = s.outward :=
  State.flush_outward _
@[simp] theorem State.clearCause_outward (k : Key) : (s.clearCause k).outward = s.outward := by simp [State.outward]
@[simp] theorem State.requestStop_outward (r : StopReason) : (s.requestStop r).outward = s.outward := by
  simp [State.outward]
@[simp] theorem State.testThreadBreaks_outward : s.testThreadBreaks.outward = s.outward := by simp [State.outward]
@[simp] theorem State.rejoin_outward : s.rejoin.outward = s.outward := by simp [State.outward]
@[simp] theorem State.latchesOffAtRest_outward : s.latchesOffAtRest.outward = s.outward := by simp [State.outward]
@[simp] theorem State.noHeadsTest_outward : s.noHeadsTest.outward = s.outward := by simp [State.outward]

@[simp] theorem State.bandCheck_outward : s.bandCheck.outward = s.outward := rfl

@[simp] theorem State.endHeads_outward : s.endHeads.outward = s.outward := by
  have cleared : (allHeads.foldl (fun t h => State.clearCause (.threadLoose h) t) s).outward = s.outward :=
    foldl_keeps State.outward _ (fun t h => State.clearCause_outward t _) allHeads s
  unfold State.endHeads
  rw [State.testThreadBreaks_outward]
  simpa only [State.outward] using cleared

@[simp] theorem State.endRun_outward (r : RunResult) (x : StopReason) : (s.endRun r x).outward = s.outward := by
  simp only [State.endRun, State.bandCheck_outward, State.latchesOffAtRest_outward, State.endHeads_outward,
    State.clearCause_outward, State.flush_outward]
  rfl

@[simp] theorem State.carriageFault_outward (f : CarriageFault) (n : Option Needle) :
    (s.carriageFault f n).outward = s.outward := by
  unfold State.carriageFault
  dsimp only
  split
  · exact State.enterStopped_outward _ _
  · rfl

theorem State.colourHead_outward (p : Option Position) (h : Head) : (s.colourHead p h).outward = s.outward := by
  unfold State.colourHead
  dsimp only
  repeat' split
  all_goals simp [State.outward, State.openThreadBreak]

@[simp] theorem State.colourHeads_outward (p : Option Position) : (s.colourHeads p).outward = s.outward := by
  unfold State.colourHeads
  rw [State.testThreadBreaks_outward, State.noHeadsTest_outward]
  refine foldl_keeps State.outward _ (fun t h => ?_) allHeads s
  split
  · exact t.colourHead_outward p h
  · rfl

@[simp] theorem State.clearUnmatched_outward (p : Position) : (s.clearUnmatched p).outward = s.outward := by
  unfold State.clearUnmatched
  repeat' split
  · rfl
  · exact State.clearCause_outward _ _
  · rfl

@[simp] theorem State.afterChange_outward : s.afterChange.outward = s.outward := by
  unfold State.afterChange
  repeat' split
  · exact State.enterStopped_outward _ _
  · rfl
  · exact State.enterStopped_outward _ _

@[simp] theorem State.changeDone_outward (n : Needle) : (s.changeDone n).outward = s.outward := by
  unfold State.changeDone
  split
  · rfl
  · rename_i e rest _
    have coloured := State.colourHeads_outward (State.clearCause .carriageFault
      { s with run := { s.run with needle := some n, blockStart := s.run.ordinal, blockEnd := false } }) (some e.pos)
    rw [State.clearCause_outward] at coloured
    rw [State.afterChange_outward, State.clearUnmatched_outward]
    simpa only [State.outward] using coloured

@[simp] theorem State.carriageDone_outward (n : Needle) : (s.carriageDone n).outward = s.outward := by
  unfold State.carriageDone
  dsimp only
  split
  · exact State.changeDone_outward _ _
  · exact State.clearCause_outward _ _

@[simp] theorem State.beginChange_outward (e : Entry) (c : Half) : (s.beginChange e c).outward = s.outward := by
  unfold State.beginChange
  dsimp only
  repeat' split
  · exact State.carriageFault_outward _ _ _
  · exact State.enterStopped_outward _ _
  · exact State.carriageDone_outward _ _
  · rfl

@[simp] theorem State.take_outward (e : Entry) (rest : List Entry) : (s.take e rest).outward = s.outward := by
  unfold State.take
  dsimp only
  split
  · exact State.rejoin_outward _
  · rfl

@[simp] theorem State.sewingMove_outward (e : Entry) : (s.sewingMove e).outward = s.outward := by
  unfold State.sewingMove
  split <;> rfl

@[simp] theorem State.beginPoint_outward (e : Entry) (rest : List Entry) : (s.beginPoint e rest).outward = s.outward := by
  unfold State.beginPoint
  rw [State.sewingMove_outward]
  exact State.take_outward _ _ _

@[simp] theorem State.takeStationary_outward (e : Entry) (rest : List Entry) :
    (s.takeStationary e rest).outward = s.outward := State.take_outward _ _ _

theorem State.dealRecord_outward (e : Entry) (rest : List Entry) : (s.dealRecord e rest).outward = s.outward := by
  unfold State.dealRecord
  repeat' split
  · exact State.enterStopped_outward _ _
  · rfl
  · exact State.takeStationary_outward _ _ _
  · exact State.beginPoint_outward _ _ _

theorem State.dealEntry_outward (e : Entry) (rest : List Entry) : (s.dealEntry e rest).outward = s.outward := by
  unfold State.dealEntry
  split
  · split
    · exact State.enterStopped_outward _ _
    · exact State.beginChange_outward _ _ _
  · split
    · exact State.enterStopped_outward _ _
    · exact State.endRun_outward _ _ _
  · exact State.enterStopped_outward _ _
  · exact State.enterStopped_outward _ _
  all_goals
    split
    · exact State.enterStopped_outward _ _
    · exact s.dealRecord_outward e rest

theorem State.dealHeads_outward (fuel : Nat) : (State.dealHeads fuel s).outward = s.outward := by
  have head (t : State) : t.dealHead.outward = t.outward := by
    unfold State.dealHead
    repeat' split
    · exact State.enterStopped_outward _ _
    · rfl
    · exact t.dealEntry_outward _ _
  induction fuel generalizing s with
  | zero => rfl
  | succ n ih =>
    unfold State.dealHeads
    dsimp only
    repeat' split
    · exact (ih _).trans (head s)
    · exact head s
    · rfl

@[simp] theorem State.whenStill_outward : s.whenStill.outward = s.outward := by
  have cut : s.completeCutJump.outward = s.outward := by
    unfold State.completeCutJump
    repeat' split
    · rfl
    · rfl
    · rfl
  unfold State.whenStill
  dsimp only
  split
  · unfold State.takeQuickStop
    split
    · exact (State.enterStopped_outward _ _).trans cut
    · exact cut
  · exact (State.dealHeads_outward _ _).trans cut

theorem State.outward_lastGranted {s t : State} (h : t.outward = s.outward) : t.lastGranted = s.lastGranted :=
  congrArg Prod.fst h

theorem State.outward_link {s t : State} (h : t.outward = s.outward) :
    t.link = { s.link with runChange := t.link.runChange } := by
  have same : { t.link with runChange := false } = { s.link with runChange := false } := congrArg (·.2.1) h
  have own : t.link = { { t.link with runChange := false } with runChange := t.link.runChange } := rfl
  rw [same] at own
  exact own

theorem State.outward_free {s t : State} (h : t.outward = s.outward) (free : s.burst = none) : t.burst = none := by
  have same : (t.burst.map fun b => { b with stale := false }) = s.burst.map fun b => { b with stale := false } :=
    congrArg (·.2.2) h
  rw [free] at same
  simpa using same

/-! ## A shaft that does not rest, or a run that does not sew -/

variable {s} {b : Burst}

/-- Nothing waits for the head of the queue in a quiet state. -/
theorem State.whenStill_of_quiet (h : s.quiet) : s.whenStill = s := by
  rcases h with turns | ⟨sews, none_⟩
  · have still : s.shaftStill = false := by simp [State.shaftStill, turns]
    have cut : s.completeCutJump = s := by
      unfold State.completeCutJump
      split
      · rfl
      · rw [if_neg (by simp [still])]
    have waits : s.takeQuickStop = s := if_neg (by simp [still])
    have unread : s.headReadable = false := by simp [State.headReadable, turns]
    unfold State.whenStill
    dsimp only
    rw [cut]
    split
    · exact waits
    · exact if_neg (by simp [unread])
  · exact State.whenStill_of_not_sewing s sews none_

theorem State.settle_of_quiet (h : s.quiet) : s.settle = s.arbitrate := by rw [State.settle, State.whenStill_of_quiet h]

/-- With the store free, the settled state holds what the grant decision makes of it. -/
theorem State.settle_granted {t : State} (free : t.burst = none) (same : t.lastGranted = s.lastGranted) :
    State.granted none s t.settle := by
  have outward := t.whenStill_outward
  have granted := State.arbitrate_granted s t.whenStill ((State.outward_lastGranted outward).trans same)
  rwa [State.outward_free outward free] at granted

/-! ## The records of a region -/

theorem readRegion_eq (m : List Host.Cell) (base first count : Nat) :
    readRegion m base first count = (List.range count).map fun i => readPlace m (64 * base + first + i) := by
  induction count generalizing first with
  | zero => rfl
  | succ n ih =>
    rw [readRegion, ih, placeOf_eq, List.range_succ_eq_map, List.map_cons, List.map_map, Nat.add_zero]
    congr 1
    refine List.map_congr_left fun i _ => ?_
    change readPlace m (64 * base + (first + 1) + i) = readPlace m (64 * base + first + (i + 1))
    congr 1
    omega

/-- A record written to a region leaves every byte outside it. -/
theorem Memory.read_writeRegion_outside {m : List Host.Cell} {base first a : Nat} {ws : List Word}
    (h : a < 4 * (64 * base + first) ∨ 4 * (64 * base + first + ws.length) ≤ a) :
    Memory.read (writeRegion m base first ws) a = Memory.read m a := by
  induction ws generalizing m first with
  | nil => rfl
  | cons w ws ih =>
    rw [List.length_cons] at h
    rw [writeRegion, ih (by omega), writePlace, Memory.read_writeBytes_outside]
    rw [wordBytes_length, placeOf_eq]
    omega

theorem Memory.read_writeBytes_at {m : List Host.Cell} (wf : Memory.wf m = true) (k : Nat) {vs : List Byte} {i : Nat}
    (h : i < vs.length) : Memory.read (Memory.writeBytes m k vs) (k + i) = vs[i] := by
  rw [Memory.read_writeBytes _ _ _ wf, dif_pos ⟨by omega, by omega⟩]
  simp only [Nat.add_sub_cancel_left]

theorem readPlace_writePlace {m : List Host.Cell} (wf : Memory.wf m = true) (place : Nat) (w : Word) :
    readPlace (writePlace m place w) place = w := by
  have at_ {i : Nat} (h : i < 4) := Memory.read_writeBytes_at wf (4 * place) (vs := wordBytes w) h
  unfold readPlace writePlace
  rw [show Memory.read (Memory.writeBytes m (4 * place) (wordBytes w)) (4 * place) = _ from at_ (i := 0) (by omega),
    at_ (i := 1) (by omega), at_ (i := 2) (by omega), at_ (i := 3) (by omega)]
  exact word_wordBytes w

theorem readPlace_congr {m m' : List Host.Cell} {place : Nat}
    (h : ∀ a, 4 * place ≤ a → a < 4 * place + 4 → Memory.read m a = Memory.read m' a) :
    readPlace m place = readPlace m' place := by
  unfold readPlace
  rw [h _ (by omega) (by omega), h _ (by omega) (by omega), h _ (by omega) (by omega), h _ (by omega) (by omega)]

/-- Each record written to a region stands at its place. -/
theorem readPlace_writeRegion {m : List Host.Cell} (wf : Memory.wf m = true) {base first i : Nat} {ws : List Word}
    {w : Word} (h : ws[i]? = some w) : readPlace (writeRegion m base first ws) (64 * base + first + i) = w := by
  induction ws generalizing m first i with
  | nil => cases h
  | cons x ws ih =>
    rw [writeRegion]
    cases i with
    | zero =>
      obtain rfl : x = w := by simpa using h
      rw [readPlace_congr (m' := writePlace m (placeOf base first) x) fun a least most =>
        Memory.read_writeRegion_outside (.inl (by omega)), placeOf_eq]
      exact readPlace_writePlace wf _ _
    | succ i =>
      have shifted := ih (Memory.wf_writePlace (placeOf base first) x wf) (first := first + 1) (i := i) h
      rwa [show 64 * base + (first + 1) + i = 64 * base + first + (i + 1) by omega] at shifted

theorem recordsOf_eq_some {ws : List Word} {rs : List Record} (h : ws.map decodeRecord = rs.map some) :
    recordsOf ws = some rs := by
  induction ws generalizing rs with
  | nil =>
    obtain rfl : rs = [] := by simpa using h.symm
    rfl
  | cons w ws ih =>
    cases rs with
    | nil => cases h
    | cons r rs =>
      obtain ⟨first, rest⟩ := List.cons.inj h
      simp only [recordsOf, first, ih rest]
      rfl

theorem recordsOf_eq_none {ws : List Word} (h : ∃ w ∈ ws, decodeRecord w = none) : recordsOf ws = none := by
  induction ws with
  | nil => obtain ⟨w, mem, -⟩ := h; cases mem
  | cons x ws ih =>
    unfold recordsOf
    cases first : decodeRecord x with
    | none => rfl
    | some r =>
      obtain ⟨w, mem, illegal⟩ := h
      rcases List.mem_cons.1 mem with rfl | later
      · rw [illegal] at first; cases first
      · rw [ih ⟨w, later, illegal⟩]; rfl

/-! ## A burst that completes -/

section Complete

variable (held : s.burst = some b)
include held

theorem exec_burstComplete_outside (out : regionInside b.base b.first b.count = false) :
    exec .burstComplete s = .fault .storeOutside := by
  change execBurstComplete s = _
  simp only [execBurstComplete, held, out]
  rfl

variable (inside : regionInside b.base b.first b.count = true)
include inside

theorem exec_burstComplete_inside :
    exec .burstComplete s = afterBurst (State.burstResult b { s with burst := none }) := by
  change execBurstComplete s = _
  simp only [execBurstComplete, held, inside]
  rfl

theorem exec_burstComplete_loader (loader : b.claimant = .loader) :
    exec .burstComplete s = .next (State.settle (State.loaderBurst b { s with burst := none })) := by
  rw [exec_burstComplete_inside held inside, State.burstResult, loader]
  rfl

theorem exec_burstComplete_readback (readback : b.claimant = .readback) (fresh : b.stale = false) :
    exec .burstComplete s = .next (State.settle (State.readbackBurst (readRegion s.store b.base b.first b.count)
      { s with burst := none })) := by
  rw [exec_burstComplete_inside held inside, State.burstResult, readback, fresh]
  rfl

theorem exec_burstComplete_feed (feed : b.claimant = .feed) (fresh : b.stale = false) {records : List Record}
    (legal : recordsOf (readRegion s.store b.base b.first b.count) = some records) :
    exec .burstComplete s = .next (State.settle (State.feedBurst b (readRegion s.store b.base b.first b.count) records
      { s with burst := none })) := by
  rw [exec_burstComplete_inside held inside]
  simp only [State.burstResult, feed, fresh, legal]
  rfl

theorem exec_burstComplete_illegal (feed : b.claimant = .feed) (fresh : b.stale = false)
    (illegal : recordsOf (readRegion s.store b.base b.first b.count) = none) :
    exec .burstComplete s = .fault .illegalRecord := by
  rw [exec_burstComplete_inside held inside]
  simp only [State.burstResult, feed, fresh, illegal]
  rfl

theorem exec_burstComplete_stale (other : b.claimant ≠ .loader) (stale : b.stale = true) :
    exec .burstComplete s = .next (State.settle { s with burst := none }) := by
  rw [exec_burstComplete_inside held inside, State.burstResult]
  cases claimant : b.claimant with
  | loader => exact absurd claimant other
  | readback | feed => simp only [stale]; rfl

end Complete

/-- The feed's records leave the shaft and the run's state alone. -/
theorem State.feedRecords_quiet (records : List Record) (h : s.quiet) : (s.feedRecords records).quiet := by
  have kept : (s.feedRecords records).shaft = s.shaft ∧ (s.feedRecords records).run.state = s.run.state := by
    clear h
    induction records generalizing s with
    | nil => exact ⟨rfl, rfl⟩
    | cons r rs ih =>
      unfold State.feedRecords
      dsimp only
      split
      case h_6 motif reps =>
        unfold State.processCall
        split
        · exact ⟨rfl, rfl⟩
        · rw [State.clearRecordFault_eq]
          refine ⟨rfl, ?_⟩
          change (s.run.visit motif).state = _
          unfold Run.visit
          split <;> rfl
      case h_7 => exact ⟨rfl, rfl⟩
      all_goals exact ih
  obtain ⟨shaft, state⟩ := kept
  unfold State.quiet State.sewing at h ⊢
  rwa [shaft, state]

end Sys2Proof.Machine

namespace Sys2Proof.Proofs
open Sys2Proof.Machine

/-- Settles O22. -/
theorem burstCompletes : Obligations.BurstCompletes := by
  intro s b held words free
  have words_eq : readRegion s.store b.base b.first b.count = words := readRegion_eq ..
  refine ⟨fun canonical loader inside => ?_, fun r readback fresh inside waits => ?_,
    fun records feed fresh inside legal => ?_, fun other stale inside => ?_, exec_burstComplete_outside held,
    fun inside feed fresh illegal => exec_burstComplete_illegal held inside feed fresh (recordsOf_eq_none illegal)⟩
  · have inert := State.settle_inert (State.loaderBurst b free)
    have parts : (State.loaderBurst b free).store = writeRegion s.store b.base b.first b.records ∧
        (State.loaderBurst b free).load = (if b.stale then s.load else s.load.map (LoadContext.credit b.count)) ∧
        (State.loaderBurst b free).designs = s.designs ∧ (State.loaderBurst b free).config = s.config ∧
        (State.loaderBurst b free).burst = none ∧ (State.loaderBurst b free).lastGranted = s.lastGranted := by
      unfold State.loaderBurst
      cases b.stale <;> exact ⟨rfl, rfl, rfl, rfl, rfl, rfl⟩
    obtain ⟨store, load, designs, config, burst, last⟩ := parts
    simp only [State.inert, Prod.mk.injEq] at inert
    obtain ⟨config', store', designs', load', -⟩ := inert
    refine ⟨_, exec_burstComplete_loader held inside loader, fun i w at_ => ?_, fun a out => ?_, load'.trans load,
      designs'.trans designs, config'.trans config, State.settle_granted burst last⟩
    · rw [store', store]
      exact readPlace_writeRegion canonical at_
    · rw [store', store]
      exact Memory.read_writeRegion_outside out
  · intro got link
    have result : State.readbackBurst words free = { free with link := link } := by
      unfold State.readbackBurst
      rw [show free.link.readBack = some r from waits]
      change (if got.length < r.count then _ else _) = _
      change _ = { free with link := if got.length < r.count then _ else _ }
      split <;> rfl
    have done := exec_burstComplete_readback held inside readback fresh
    rw [words_eq, result] at done
    have inert := State.settle_inert { free with link := link }
    simp only [State.inert, Prod.mk.injEq] at inert
    obtain ⟨-, store, -⟩ := inert
    refine ⟨_, done, rfl, store, ?_, fun quiet => ?_⟩
    · have linked := State.outward_link (State.whenStill_outward { free with link := link })
      have same : (State.settle { free with link := link }).link = (State.whenStill { free with link := link }).link := by
        rw [State.settle, State.arbitrate_eq]
      rw [same]
      exact linked
    · exact State.settle_of_quiet (s := { free with link := link }) quiet
  · have done := exec_burstComplete_feed held inside feed fresh (recordsOf_eq_some (words_eq ▸ legal))
    rw [words_eq] at done
    refine ⟨fun filling => ?_, fun walking => ?_⟩
    · have result : State.feedBurst b words records free = free.feedRecords records := by
        simp only [State.feedBurst, show free.feed.activity = .filling from filling]
      rw [result] at done
      have inert := (State.settle_inert _).trans (State.feedRecords_inert free records)
      simp only [State.inert, Prod.mk.injEq] at inert
      obtain ⟨-, store, -⟩ := inert
      exact ⟨_, done, rfl, store, fun quiet =>
        State.settle_of_quiet (State.feedRecords_quiet (s := free) records quiet)⟩
    · have result : State.feedBurst b words records free = free.walkRead b.first words := by
        simp only [State.feedBurst, show free.feed.activity = .walking from walking]
      rw [result] at done
      have inert := (State.settle_inert _).trans (State.walkRead_inert free b.first words)
      simp only [State.inert, Prod.mk.injEq] at inert
      obtain ⟨-, store, -⟩ := inert
      exact ⟨_, done, rfl, store⟩
  · exact ⟨_, exec_burstComplete_stale held inside other stale, rfl, fun quiet => State.settle_of_quiet (s := free) quiet⟩

end Sys2Proof.Proofs
end

section
/-! PROOFS. Begin points and holds, the window-open crossing and the shaft coming to rest (R92 to R96, R105 to R107,
R159). -/

namespace Sys2Proof.Machine

variable {s t : State} {e : Entry} {rest : List Entry}

/-! ## A hold -/

/-- Entering STOPPED, written out (R159). -/
theorem State.enterStopped_eq (reason : StopReason) (s : State) : s.enterStopped reason = { s with
    run := { s.run with state := .stopped, reason := reason, resume := s.holdPoint, pendingStop := false }
    feed := { s.feed with activity := .idle, blocked := false }
    burst := s.idledBurst, queue := []
    shaft := { s.shaft with stopReq := .none }, link := { s.link with runChange := true } } := rfl

/-! ## A begin point -/

/-- The head's state at a begin point that raises the path ordinal to `p` (R148). -/
theorem HeadRecord.rejoin_state (r : HeadRecord) (p : Nat) : (r.rejoin p).state = match r.state with
    | .waiting m => if m ≤ p then .sewing else .waiting m
    | x => x := by
  unfold HeadRecord.rejoin
  cases h : r.state with
  | waiting m =>
    dsimp only
    split
    · rfl
    · exact h
  | off | idle | sewing | broken m => exact h

/-- The path ordinal behind the taking of an entry (R55). -/
def State.ordinalBehind (s : State) (e : Entry) : Nat :=
  if e.isMovement then min (s.run.ordinal + 1) 4294967295 else s.run.ordinal

/-- The run behind the taking of an entry (R55, R65). -/
def State.runBehind (s : State) (e : Entry) : Run :=
  { s.run with
    chain := some e.pos, ordinal := s.ordinalBehind e
    frontier := if e.isMovement then max s.run.frontier (s.ordinalBehind e) else s.run.frontier }

/-- Rejoining writes the heads and the condition table alone (R148, R151). -/
theorem State.rejoin_eq (s : State) : s.rejoin = { s with
    heads := s.heads.map (HeadRecord.rejoin s.run.ordinal)
    conditions := s.rejoin.conditions, changes := s.rejoin.changes } :=
  State.testThreadBreaks_eq { s with heads := s.heads.map (HeadRecord.rejoin s.run.ordinal) }

theorem State.take_eq (e : Entry) (rest : List Entry) (s : State) : s.take e rest = { s with
    queue := rest, run := s.runBehind e, heads := (s.take e rest).heads
    conditions := (s.take e rest).conditions, changes := (s.take e rest).changes } := by
  unfold State.take State.runBehind State.ordinalBehind
  dsimp only
  by_cases moves : e.isMovement = true
  · rw [if_pos moves, if_pos moves, if_pos moves]
    have joined := State.rejoin_eq { s with
      queue := rest
      run := { s.run with chain := some e.pos, ordinal := satOrdinal (s.run.ordinal + 1),
                          frontier := max s.run.frontier (satOrdinal (s.run.ordinal + 1)) } }
    generalize State.rejoin _ = u at joined ⊢
    rw [joined]
    rfl
  · rw [if_neg moves, if_neg moves, if_neg moves]

theorem State.take_heads (e : Entry) (rest : List Entry) (s : State) (h : Head) :
    (s.take e rest).heads.get h =
      if e.isMovement then (s.heads.get h).rejoin (s.ordinalBehind e) else s.heads.get h := by
  unfold State.take State.ordinalBehind
  dsimp only
  by_cases moves : e.isMovement = true
  · rw [if_pos moves, if_pos moves, if_pos moves, State.rejoin, State.testThreadBreaks_heads, Table.get_map]
    rfl
  · rw [if_neg moves, if_neg moves]

/-- The state of a head behind the taking of an entry (R148). -/
theorem State.take_headState (e : Entry) (rest : List Entry) (s : State) (h : Head) :
    ((s.take e rest).heads.get h).state = match (s.heads.get h).state with
      | .waiting r => if e.isMovement = true ∧ r ≤ s.ordinalBehind e then .sewing else .waiting r
      | x => x := by
  rw [State.take_heads]
  by_cases moves : e.isMovement = true
  · rw [if_pos moves, HeadRecord.rejoin_state]
    cases (s.heads.get h).state <;> simp [moves]
  · rw [if_neg moves]
    cases (s.heads.get h).state <;> simp [moves]

theorem State.sewingMove_eq (e : Entry) (s : State) : s.sewingMove e = { s with
    frame := if e.isMovement then s.frame.beginSewing s.config e.disp else s.frame } := by
  unfold State.sewingMove
  split <;> rfl

/-- A begin point, written out (R94, R96, R98, R101, R135). -/
theorem State.beginPoint_eq (e : Entry) (rest : List Entry) (s : State) : s.beginPoint e rest =
    { (s.commitSpeed e rest).take e rest with
      shaft := { (s.commitSpeed e rest).shaft with
        active := some { kind := e.revKind, pen := ((s.commitSpeed e rest).take e rest).penetrating e.revKind
                         awaiting := false } }
      heads := ((s.commitSpeed e rest).take e rest).heads.map fun r =>
        { r with latch := e.revKind.penetrates && decide (r.state = .sewing) }
      frame := if e.isMovement then s.frame.beginSewing s.config e.disp else s.frame } := by
  have taken := (s.commitSpeed e rest).take_eq e rest
  unfold State.beginPoint
  rw [State.sewingMove_eq]
  generalize (s.commitSpeed e rest).take e rest = u at taken ⊢
  rw [taken]
  rfl

/-- What a begin point leaves, up to the grant behind it. -/
theorem State.beginPoint_begun (e : Entry) (rest : List Entry) (s : State) :
    s.begun e rest (s.beginPoint e rest).arbitrate := by
  have eq := s.beginPoint_eq e rest
  have taken := (s.commitSpeed e rest).take_eq e rest
  have states := (s.commitSpeed e rest).take_headState e rest
  generalize (s.commitSpeed e rest).take e rest = u at eq taken states
  have granted : State.granted s.burst s (s.beginPoint e rest).arbitrate := by
    have same : (s.beginPoint e rest).lastGranted = s.lastGranted ∧ (s.beginPoint e rest).burst = s.burst := by
      rw [eq, taken]; exact ⟨rfl, rfl⟩
    exact same.2 ▸ State.arbitrate_granted s _ same.1
  generalize s.beginPoint e rest = x at eq granted
  unfold State.begun
  refine ⟨?_, ?_, ?_, ?_, fun h => ?_, ?_, ?_, ?_, ?_, ?_, ?_, granted⟩
  · rw [State.arbitrate_queue, eq, taken]
  · rw [State.arbitrate_run, eq, taken]; rfl
  · rw [State.arbitrate_shaft, eq]; rfl
  · rw [State.arbitrate_shaft, State.arbitrate_heads, eq]
    exact ⟨_, rfl, rfl, rfl, fun h => by simp [State.penetrating]⟩
  · rw [State.arbitrate_heads, eq]
    simp only [Table.get_map, true_and]
    exact (states h).trans rfl
  · rw [State.arbitrate_frame, eq]
  · rw [State.arbitrate_config, eq, taken]; rfl
  · rw [State.arbitrate_store, eq, taken]; rfl
  · rw [State.arbitrate_designs, eq, taken]; rfl
  · rw [State.arbitrate_needles, eq, taken]; rfl
  · rw [State.arbitrate_carriage, eq, taken]; rfl

/-! ## The window-open crossing -/

theorem State.clearStall_eq (s : State) : s.clearStall =
    { s with conditions := s.clearStall.conditions, changes := s.clearStall.changes } := by
  unfold State.clearStall
  split
  · exact State.clearCause_eq _ s
  · rfl

theorem State.requestStop_sewing (r : StopReason) (s : State) : (s.requestStop r).sewing = s.sewing := by
  unfold State.requestStop
  split
  all_goals
    rename_i state
    repeat' split
  all_goals simp [State.sewing, state]

theorem State.noHeadsTest_sewing (s : State) : s.noHeadsTest.sewing = s.sewing := by
  unfold State.noHeadsTest
  split
  · rfl
  · exact State.requestStop_sewing _ s

theorem State.sewing_congr (h : t.run = s.run) : t.sewing = s.sewing := by unfold State.sewing; rw [h]

theorem State.chargeHead_sewing (k : RevKind) (h : Head) (s : State) : (s.chargeHead k h).sewing = s.sewing := by
  by_cases asked : s.asksStop k h
  · exact (State.sewing_congr (State.chargeHead_of_asked asked).1).trans (State.requestStop_sewing _ s)
  · exact State.sewing_congr (State.chargeHead_of_unasked asked).1

theorem State.chargedSet_sewing (a : Active) (s : State) : (s.chargedSet a).sewing = s.sewing := by
  have folded : (s.chargeSet a.kind a.pen).sewing = s.sewing := by
    refine foldl_keeps State.sewing _ (fun t h => ?_) allHeads s
    split
    · exact State.chargeHead_sewing _ h t
    · rfl
  rw [State.chargedSet_eq]
  exact folded

/-- A completion point leaves the queue, the shaft's motion and whether the run sews (R93). -/
theorem State.completeRecord_frame (s : State) : s.completeRecord.queue = s.queue ∧
    s.completeRecord.config = s.config ∧ s.completeRecord.sewing = s.sewing ∧
    s.completeRecord.shaft = { s.shaft with
      active := s.completeRecord.shaft.active, pendingFlag := s.completeRecord.shaft.pendingFlag
      stopReq := s.completeRecord.shaft.stopReq } := by
  cases active : s.shaft.active with
  | none =>
    have same : s.completeRecord = s := by simp only [State.completeRecord, active]
    rw [same]
    exact ⟨rfl, rfl, rfl, rfl⟩
  | some a =>
    have frame := (State.completeRecord_charges active).frame
    have sews : s.completeRecord.sewing = s.sewing := by
      by_cases jump : a.kind = .jump
      · rw [State.completeRecord_of_jump active jump]; rfl
      · rw [State.completeRecord_of_stitch active jump, State.noHeadsTest_sewing, State.chargedSet_sewing]; rfl
    have cleared : s.completeRecord.shaft.active = none ∧ s.completeRecord.shaft.pendingFlag = false := by
      rw [frame]; exact ⟨rfl, rfl⟩
    refine ⟨by rw [frame]; rfl, by rw [frame]; rfl, sews, ?_⟩
    rw [cleared.1, cleared.2, frame]
    rfl

section Crossing

variable {s1 : State}

theorem State.windowOpen_of_turning (turning : s.shaft.state = .turning) :
    s.windowOpen = s.clearStall.completeRecord.beginOrPark := by
  simp only [State.windowOpen, turning]

theorem State.windowOpen_of_braking (braking : s.shaft.state = .braking) : s.windowOpen = s.clearStall.completeRecord := by
  simp only [State.windowOpen, braking]

theorem State.windowOpen_of_positioning (positioning : s.shaft.state = .positioning) :
    s.windowOpen = s.clearStall.completeRecord.bandCheck := by
  simp only [State.windowOpen, positioning]

theorem State.windowOpen_of_other (other : s.shaft.state = .parking ∨ s.shaft.state = .coasting ∨ s.shaft.state = .still) :
    s.windowOpen = s.clearStall := by
  rcases other with h | h | h <;> simp only [State.windowOpen, h]

theorem State.beginOrPark_begins (queue : s1.queue = e :: rest) (sews : s1.sewing = true) (goes : e.isStop = false)
    (moving : s1.stopsHere = false) : s1.beginOrPark = s1.beginPoint e rest := by
  simp only [State.beginOrPark, queue, sews, goes, moving]
  rfl

theorem State.beginOrPark_parks (h : s1.queue = [] ∨ s1.sewing = false ∨
    ∃ e rest, s1.queue = e :: rest ∧ (e.isStop = true ∨ s1.stopsHere = true)) : s1.beginOrPark = s1.park := by
  unfold State.beginOrPark
  rcases h with empty | still | ⟨e, rest, queue, stop | stop⟩
  · rw [empty]
  · split
    · rfl
    · rw [if_neg (by simp [still])]
  · simp [queue, stop]
  · simp [queue, stop]

theorem State.stopsHere_iff : s1.stopsHere = true ↔
    s1.shaft.stopReq = .controlled ∧ s1.shaft.vPrev ≤ s1.config.speedMin := by
  simp [State.stopsHere]

/-- Parking a shaft that turns (R92, R94). -/
theorem State.park_turning (turns : s1.shaft.atRest = false) : s1.park = { s1 with shaft := { s1.shaft with
    state := .parking
    command := if inBand s1.config s1.shaft.angle then 0 else min s1.shaft.vPrev s1.config.speedMin } } := by
  unfold State.park State.bandCheck
  rw [Shaft.bandCheck_turning _ (by exact turns)]
  simp

/-- The band test of a shaft that turns in POSITIONING (R92). -/
theorem State.bandCheck_positioning (turns : s1.shaft.atRest = false) (positioning : s1.shaft.state = .positioning) :
    s1.bandCheck = { s1 with shaft := { s1.shaft with
      command := if inBand s1.config s1.shaft.angle ∧ s1.shaft.pendingFlag = false then 0 else s1.shaft.command } } := by
  unfold State.bandCheck
  rw [Shaft.bandCheck_turning _ turns]
  simp [positioning]

end Crossing

end Sys2Proof.Machine

namespace Sys2Proof.Proofs
open Sys2Proof.Machine

/-- Settles O33. -/
theorem crossings : Obligations.Crossings := by
  intro s angle
  refine ⟨exec_windowOpen_again, fun i made calm crossing => ?_⟩
  intro band moved cleared s1
  have turns : exec i s = .next (s.turnTo angle made).windowOpen.arbitrate := by
    rcases crossing with ⟨rfl, rfl, fresh⟩ | ⟨rfl, rfl, forward⟩
    · exact exec_windowOpen fresh
    · exact exec_count_windowOpen forward rfl
  rw [show s.turnTo angle made = moved from s.turnTo_eq angle made calm] at turns
  have stalled : moved.clearStall = cleared := rfl
  have cleared_shaft : cleared.shaft = moved.shaft := by rw [← stalled, State.clearStall_eq]
  have cleared_config : cleared.config = s.config := by rw [← stalled, State.clearStall_eq]
  have cleared_sewing : cleared.sewing = s.sewing := State.sewing_congr (by rw [← stalled, State.clearStall_eq])
  obtain ⟨queue, config, sews, shaft⟩ := cleared.completeRecord_frame
  rw [cleared_shaft] at shaft
  rw [cleared_config] at config
  rw [cleared_sewing] at sews
  have rests : s1.shaft.atRest = false ∧ s1.shaft.vPrev = s.shaft.vPrev ∧ s1.shaft.angle = angle ∧
      s1.shaft.state = s.shaft.state ∧ s1.shaft.command = moved.shaft.command := by
    rw [shaft]
    exact ⟨rfl, rfl, rfl, rfl, rfl⟩
  obtain ⟨atRest, previous, at_, state, command⟩ := rests
  have config : s1.config = s.config := config
  have queue : s1.queue = s.queue := by
    rw [queue, ← stalled, State.clearStall_eq]
  have sewing_iff : s1.sewing = true ↔ s.run.state = .running ∨ s.run.state = .stopping := by
    rw [sews]; exact decide_eq_true_iff
  refine ⟨fun sound driven => ?_, fun turning free => ⟨fun e rest waits run goes moving => ?_, fun parks => ?_⟩,
    fun braking => ?_, fun positioning => ?_, fun other => ?_⟩
  · rw [show cleared = moved.clearCause .shaftStall from if_pos driven]
    exact State.clearCause_causeOpen (s := moved) sound _
  · have begins : moved.windowOpen = s1.beginPoint e rest := by
      refine (State.windowOpen_of_turning (s := moved) turning).trans
        (State.beginOrPark_begins (s1 := s1) (queue.trans waits) (sewing_iff.2 run) goes ?_)
      rw [Bool.eq_false_iff, ne_eq, State.stopsHere_iff, config, previous]
      exact fun both => moving.elim (· both.1) (Nat.not_lt.2 both.2)
    refine ⟨_, turns, ?_⟩
    rw [begins]
    exact State.beginPoint_begun e rest s1
  · have parked : moved.windowOpen = s1.park := by
      refine (State.windowOpen_of_turning (s := moved) turning).trans (State.beginOrPark_parks (s1 := s1) ?_)
      rw [queue]
      rcases parks with empty | ⟨notRunning, notStopping⟩ | ⟨e, rest, waits, stop | ⟨controlled, slow⟩⟩
      · exact .inl empty
      · exact .inr (.inl (Bool.eq_false_iff.2 (mt sewing_iff.1 (not_or.2 ⟨notRunning, notStopping⟩))))
      · exact .inr (.inr ⟨e, rest, waits, .inl stop⟩)
      · exact .inr (.inr ⟨e, rest, waits, .inr (State.stopsHere_iff.2 ⟨controlled, by rwa [previous, config]⟩)⟩)
    refine ⟨_, turns, ?_⟩
    rw [parked, State.park_turning atRest, config, previous, at_]
    rfl
  · refine ⟨_, turns, ?_⟩
    rw [State.windowOpen_of_braking (s := moved) braking]
    rfl
  · refine ⟨_, turns, ?_⟩
    rw [State.windowOpen_of_positioning (s := moved) positioning]
    change State.upToGrant _ (s1.bandCheck).arbitrate
    rw [State.bandCheck_positioning atRest (state.trans positioning), config, at_]
    rfl
  · refine ⟨_, turns, ?_⟩
    rw [State.windowOpen_of_other (s := moved) other]
    rfl

end Sys2Proof.Proofs
end

section
/-! PROOFS. The shaft comes to rest, and a quick stop at rest (R91, R92, R98, R106, R107, R136). -/

namespace Sys2Proof.Machine

variable {s : State}

/-! ## What the grant decision may do -/

/-- The grant decision over the claims that a command leaves (R43, log 9). -/
theorem State.granted_of {s0 : State} {b : Option Burst} (burst : s.burst = b) (last : s.lastGranted = s0.lastGranted) :
    State.granted b s0 s.arbitrate := burst ▸ State.arbitrate_granted s0 s last

/-! ## A shaft at rest -/

/-- What coming to rest leaves of the shaft, and what it always sets (R92, R98). -/
theorem Shaft.comeToRest_frame (cfg : Configuration) (sh : Shaft) : sh.comeToRest cfg =
    { sh with
      atRest := true, vPrev := cfg.speedMin, backoff := false
      state := (sh.comeToRest cfg).state, command := (sh.comeToRest cfg).command
      enable := (sh.comeToRest cfg).enable, pendingFlag := (sh.comeToRest cfg).pendingFlag } := by
  unfold Shaft.comeToRest
  dsimp only
  split
  case h_1 => split <;> rfl
  case h_2 => split <;> rfl
  all_goals rfl

theorem Shaft.comeToRest_atRest (cfg : Configuration) (sh : Shaft) : (sh.comeToRest cfg).atRest = true := by
  rw [Shaft.comeToRest_frame]

/-- A shaft that parks or positions comes to rest in the band (R92). -/
theorem Shaft.comeToRest_inBand {cfg : Configuration} {sh : Shaft} (driven : sh.state = .parking ∨ sh.state = .positioning)
    (unpended : sh.pendingFlag = false) (band : inBand cfg sh.angle = true) : sh.comeToRest cfg = { sh with
      state := .still, command := 0, atRest := true, vPrev := cfg.speedMin, backoff := false } := by
  rcases driven with parking | positioning
  · simp only [Shaft.comeToRest, parking, band]; rfl
  · simp only [Shaft.comeToRest, positioning, band, unpended]; rfl

/-- A shaft that parks or positions comes to rest outside the band, and is driven on (R92). -/
theorem Shaft.comeToRest_outside {cfg : Configuration} {sh : Shaft} (driven : sh.state = .parking ∨ sh.state = .positioning)
    (outside : inBand cfg sh.angle = false) : sh.comeToRest cfg = { sh with
      command := cfg.speedMin, enable := true, atRest := true, vPrev := cfg.speedMin, backoff := false } := by
  rcases driven with parking | positioning
  · simp only [Shaft.comeToRest, parking, outside]; rfl
  · simp only [Shaft.comeToRest, positioning, outside]; rfl

/-- The shaft comes to rest in BRAKING: a STITCH or a TRIM in progress is pending (R92, R107). -/
theorem Shaft.comeToRest_braking {cfg : Configuration} {sh : Shaft} (braking : sh.state = .braking) :
    sh.comeToRest cfg = { sh with
      state := .still, command := 0, atRest := true, vPrev := cfg.speedMin, backoff := false
      pendingFlag := sh.active.any fun a => a.kind.penetrates } := by
  unfold Shaft.comeToRest
  rw [braking]
  cases sh.active <;> rfl

theorem Shaft.comeToRest_coasting {cfg : Configuration} {sh : Shaft} (coasting : sh.state = .coasting) :
    sh.comeToRest cfg = { sh with state := .still, atRest := true, vPrev := cfg.speedMin, backoff := false } := by
  simp only [Shaft.comeToRest, coasting]

/-- The flag of a pending record is set by braking alone (R92, R107). -/
theorem Shaft.comeToRest_pendingFlag (cfg : Configuration) {sh : Shaft} (other : sh.state ≠ .braking) :
    (sh.comeToRest cfg).pendingFlag = sh.pendingFlag := by
  unfold Shaft.comeToRest
  dsimp only
  split
  case h_1 => split <;> rfl
  case h_2 => split <;> rfl
  case h_3 braking => exact absurd braking other
  all_goals rfl

theorem State.comeToRest_eq (s : State) :
    s.comeToRest = { s with shaft := s.shaft.comeToRest s.config, heads := s.comeToRest.heads } := by
  unfold State.comeToRest State.latchesOffAtRest
  split <;> rfl

theorem State.comeToRest_head (s : State) (h : Head) : s.comeToRest.heads.get h =
    { s.heads.get h with latch := (s.heads.get h).latch && (s.shaft.comeToRest s.config).pendingFlag } := by
  unfold State.comeToRest State.latchesOffAtRest
  dsimp only
  rw [Shaft.comeToRest_atRest, Bool.true_and]
  cases (s.shaft.comeToRest s.config).pendingFlag with
  | false => simp [State.latchesOff]
  | true => simp

theorem exec_shaftAtRest (turns : s.shaft.atRest = false) : exec .shaftAtRest s = .next s.comeToRest.settle :=
  if_neg (by simp [turns])

/-! ## A quick stop at rest -/

/-- A quick stop waits for the move in flight (R106). -/
theorem State.whenStill_quick_moving (quick : s.shaft.stopReq = .quick) (moving : s.frame.state.isMoving = true) :
    s.whenStill = s := by
  have busy : s.frameStill = false := by simp [State.frameStill, moving]
  have cut : s.completeCutJump = s := by
    unfold State.completeCutJump
    split
    · rfl
    · exact if_neg (by simp [busy])
  unfold State.whenStill
  dsimp only
  rw [cut, if_pos quick]
  exact if_neg (by simp [busy])

/-- The state behind a JUMP that a quick stop cut short and whose move is complete (R107). -/
def State.cutDone (s : State) : State :=
  { s with shaft := { s.shaft with active := s.shaft.active.filter fun a => a.kind ≠ .jump } }

theorem State.completeCutJump_still (still : s.shaftStill = true) (unmoved : s.frameStill = true) :
    s.completeCutJump = s.cutDone := by
  unfold State.completeCutJump State.cutDone
  split
  · rename_i none_
    rw [none_, Option.filter_none, ← none_]
  · rename_i a some_
    by_cases jump : a.kind = .jump
    · rw [if_pos ⟨jump, still, unmoved⟩, some_, Option.filter_some, if_neg (by simp [jump])]
    · rw [if_neg fun h => jump h.1, some_, Option.filter_some, if_pos (by simp [jump]), ← some_]

/-- A quick stop is taken at rest with no move in flight: a JUMP completes, and the run is held (R106, R107). -/
theorem State.whenStill_quick (quick : s.shaft.stopReq = .quick) (sews : s.sewing = true)
    (still : s.shaft.state = .still) (rests : s.shaft.atRest = true) (unmoved : s.frame.state.isMoving = false) :
    s.whenStill = s.cutDone.enterStopped s.run.reason := by
  have shaftStill : s.shaftStill = true := by simp [State.shaftStill, still, rests]
  have frameStill : s.frameStill = true := by simp [State.frameStill, unmoved]
  have ready : (s.sewing && s.shaftStill && s.frameStill) = true := by simp [sews, shaftStill, frameStill]
  unfold State.whenStill
  dsimp only
  rw [State.completeCutJump_still shaftStill frameStill, if_pos (by exact quick)]
  exact if_pos (c := (s.sewing && s.shaftStill && s.frameStill) = true) ready

end Sys2Proof.Machine

namespace Sys2Proof.Proofs
open Sys2Proof.Machine

/-- Settles O35. -/
theorem shaftTurnsAndRests : Obligations.ShaftTurnsAndRests := by
  intro s
  refine ⟨fun c moved plain opens closes calm => ?_, fun turns notRunning notStopping none_ unpended => ?_,
    fun braking turns quick sews => ?_⟩
  · have apart {n : Nat} (small : n < 1024) (h : c.toNat ≠ n) : c ≠ countOf n := by
      rintro rfl
      exact h (by simp [countOf, Nat.mod_eq_of_lt small])
    rw [exec_count_plain moved fun forward => ⟨apart opens (plain forward).1, apart closes (plain forward).2⟩,
      State.turnTo_eq c false calm]
  · intro band driven
    have rests := exec_shaftAtRest turns
    have eq := s.comeToRest_eq
    have heads := s.comeToRest_head
    have atRest := Shaft.comeToRest_atRest s.config s.shaft
    have pendingFlag : (s.shaft.comeToRest s.config).pendingFlag = false := by
      by_cases braking : s.shaft.state = .braking
      · simp only [Shaft.comeToRest, braking, none_]
      · rw [Shaft.comeToRest_pendingFlag s.config braking, unpended]
    rw [pendingFlag] at heads
    simp only [Bool.and_false] at heads
    generalize s.comeToRest = x at rests eq heads
    have none' : x.shaft.active = none := by
      rw [eq, Shaft.comeToRest_frame]
      exact none_
    have idle : x.sewing = false := by
      rw [State.sewing_congr (s := s) (by rw [eq])]
      simp [State.sewing, notRunning, notStopping]
    rw [State.settle_of_not_sewing x idle none'] at rests
    have shaft : x.arbitrate.shaft = s.shaft.comeToRest s.config := by rw [State.arbitrate_shaft, eq]
    have frame := s.shaft.comeToRest_frame s.config
    refine ⟨_, rests, ?_, ?_, ?_, ?_, ?_, fun driven inside => ?_, fun driven outside => ?_, fun braking => ?_,
      fun coasting => ?_, ?_, ?_⟩
    · rw [shaft, atRest]
    · rw [shaft, frame]
    · rw [shaft, frame]
    · rw [shaft, frame]
    · rw [shaft, frame]
    · rw [shaft, Shaft.comeToRest_inBand driven unpended inside]
      exact ⟨rfl, rfl⟩
    · rw [shaft, Shaft.comeToRest_outside driven outside]
      exact ⟨rfl, rfl, rfl⟩
    · rw [shaft, Shaft.comeToRest_braking braking]
      exact ⟨rfl, rfl⟩
    · rw [shaft, Shaft.comeToRest_coasting coasting]
      exact ⟨rfl, rfl⟩
    · rw [State.arbitrate_heads]
      exact heads
    · rw [State.arbitrate_heads, shaft, ← eq]
      rfl
  · intro pends still
    have pends_eq : (s.shaft.active.any fun a => a.kind.penetrates) = pends := by
      change _ = match s.shaft.active with
        | some a => decide (a.kind ≠ RevKind.jump)
        | none => false
      cases s.shaft.active with
      | none => rfl
      | some a => cases kind : a.kind <;> simp [kind, RevKind.penetrates]
    have rests := exec_shaftAtRest turns
    have eq := s.comeToRest_eq
    have heads := s.comeToRest_head
    rw [Shaft.comeToRest_braking braking, pends_eq] at eq heads
    generalize s.comeToRest = x at rests eq heads
    have quick' : x.shaft.stopReq = .quick := by rw [eq]; exact quick
    have frame : x.frame = s.frame := by rw [eq]
    by_cases moving : s.frame.state.isMoving = true
    · rw [State.settle, State.whenStill_quick_moving quick' (frame ▸ moving)] at rests
      refine ⟨_, rests, ?_, fun _ => ?_, fun unmoved => absurd moving (by simp [unmoved])⟩
      · rw [State.arbitrate_heads]; exact heads
      · rw [State.arbitrate_heads, ← eq]; rfl
    · have unmoved : s.frame.state.isMoving = false := by simpa using moving
      have sewing : x.sewing = true := by
        rw [State.sewing_congr (s := s) (by rw [eq])]
        simpa [State.sewing] using sews
      rw [State.settle, State.whenStill_quick quick' sewing (by rw [eq]) (by rw [eq]) (frame ▸ unmoved),
        State.enterStopped_eq] at rests
      refine ⟨_, rests, ?_, fun moving => absurd moving (by simp [unmoved]), fun _ => ?_⟩
      · rw [State.arbitrate_heads]; exact heads
      · have active : x.cutDone.shaft.active = if pends then s.shaft.active else none := by
          rw [← pends_eq, eq]
          change (s.shaft.active.filter fun a => decide (a.kind ≠ RevKind.jump)) = _
          cases s.shaft.active with
          | none => rfl
          | some a => cases kind : a.kind <;> simp [kind, RevKind.penetrates, Option.filter_some]
        simp only [State.arbitrate_shaft, State.arbitrate_run, State.arbitrate_queue, State.arbitrate_feed,
          State.arbitrate_link, State.arbitrate_frame, State.arbitrate_needles, State.arbitrate_conditions,
          State.arbitrate_carriage, State.arbitrate_config, State.arbitrate_store, State.arbitrate_designs]
        refine ⟨?_, ?_, trivial, trivial, ?_, frame, ?_, ?_, ?_, ?_, ?_, ?_, State.granted_of ?_ ?_⟩
        · rw [active]
          rw [State.cutDone, eq]
        all_goals
          rw [eq]
          rfl

end Sys2Proof.Proofs
end

section
/-! PROOFS. The head of the queue at rest at TDC, read once: each row of R95's table on a state in which it may be
read (R86, R95, R96, R105, R145). -/

namespace Sys2Proof.Machine

variable {s : State} {e : Entry} {rest : List Entry}

/-! ## A frame move -/

theorem Point.major_eq_zero_iff {d : Point} : d.major = 0 ↔ d = ⟨0, 0⟩ := by
  cases d
  simp [Point.major]

/-- A move of steps begins from a known position (R75, R76, R77). -/
theorem FrameUnit.beginMove_known {f : FrameUnit} {p : Point} (known : f.state = .known p) {disp : Point}
    (steps : disp ≠ ⟨0, 0⟩) (cfg : Configuration) (kind : MoveKind) : f.beginMove cfg kind disp = { f with
      state := .moving { kind := kind, start := p, disp := disp, issued := 0
                         time := cfg.rampAllowance + max disp.x.natAbs disp.y.natAbs * cfg.stepPeriod }
      dirX := if 0 < disp.x then .positive else if disp.x < 0 then .negative else f.dirX
      dirY := if 0 < disp.y then .positive else if disp.y < 0 then .negative else f.dirY } := by
  have some_ : disp.major ≠ 0 := mt Point.major_eq_zero_iff.1 steps
  have time : cfg.moveTime disp.major = cfg.rampAllowance + max disp.x.natAbs disp.y.natAbs * cfg.stepPeriod :=
    if_neg some_
  simp only [FrameUnit.beginMove, known, if_neg some_, time]
  rfl

/-- A move of no steps completes at its begin (R75). -/
theorem FrameUnit.beginMove_zero (f : FrameUnit) (cfg : Configuration) (kind : MoveKind) :
    f.beginMove cfg kind ⟨0, 0⟩ = f := by
  unfold FrameUnit.beginMove
  split
  · exact if_pos rfl
  all_goals rfl

/-! ## Reading the table -/

theorem State.headReadable_iff : s.headReadable = true ↔ s.sewing = true ∧ s.shaft.stopReq ≠ .quick ∧
    s.shaft.state = .still ∧ s.atTdc = true ∧ s.shaft.active = none ∧ s.frame.state.isMoving = false := by
  simp [State.headReadable, State.frameStill, and_assoc]

theorem State.unreadable_of_sewing (h : s.sewing = false) : s.headReadable = false := by simp [State.headReadable, h]

theorem State.enterStopped_unreadable (reason : StopReason) (s : State) : (s.enterStopped reason).headReadable = false :=
  rfl

theorem State.dealHeads_of_unreadable (unread : s.headReadable = false) (fuel : Nat) : State.dealHeads fuel s = s := by
  cases fuel with
  | zero => rfl
  | succ n => exact if_neg (by simp [unread])

/-- An empty queue with no stop pending has nothing to deal with (R102). -/
theorem State.dealHeads_of_empty (empty : s.queue = []) (free : s.run.pendingStop = false) (fuel : Nat) :
    State.dealHeads fuel s = s := by
  have same : s.dealHead = s := by simp [State.dealHead, empty, free]
  cases fuel with
  | zero => rfl
  | succ n =>
    rw [State.dealHeads, same]
    dsimp only
    rw [if_neg (Nat.lt_irrefl _), ite_self]

theorem State.whenStill_of_calm (none_ : s.shaft.active = none) (calm : s.shaft.stopReq ≠ .quick) :
    s.whenStill = State.dealHeads (s.queue.length + 1) s := by
  have cut : s.completeCutJump = s := by simp only [State.completeCutJump, none_]
  unfold State.whenStill
  dsimp only
  rw [cut, if_neg calm]

/-- With no record in progress and no quick stop, nothing follows where the table may not be read. -/
theorem State.whenStill_of_unreadable (none_ : s.shaft.active = none) (calm : s.shaft.stopReq ≠ .quick)
    (unread : s.headReadable = false) : s.whenStill = s := by
  rw [State.whenStill_of_calm none_ calm, State.dealHeads_of_unreadable unread]

/-- The table is read once where what it does ends its reading or takes no entry (R95). -/
theorem State.whenStill_once (readable : s.headReadable = true) {t : State} (deals : s.dealHead = t)
    (once : t.headReadable = false ∨ t.queue = s.queue ∨ t.queue = [] ∧ t.run.pendingStop = false) : s.whenStill = t := by
  obtain ⟨-, calm, -, -, none_, -⟩ := State.headReadable_iff.1 readable
  rw [State.whenStill_of_calm none_ calm, State.dealHeads, if_pos readable, deals]
  dsimp only
  split
  · rename_i fewer
    rcases once with unread | same | ⟨empty, free⟩
    · exact State.dealHeads_of_unreadable unread _
    · rw [same] at fewer; exact absurd fewer (Nat.lt_irrefl _)
    · exact State.dealHeads_of_empty empty free _
  · rfl

/-! ## Its rows -/

theorem State.dealHead_cons (queue : s.queue = e :: rest) : s.dealHead = s.dealEntry e rest := by
  simp only [State.dealHead, queue]

/-! ## The end of a run -/

/-- `t` differs from `s` in its condition table alone. -/
def State.recorded (s t : State) : Prop := t = { s with conditions := t.conditions, changes := t.changes }

theorem State.recorded_trans {t u : State} (h1 : s.recorded t) (h2 : t.recorded u) : s.recorded u := by
  rw [State.recorded, h1] at h2
  exact h2

theorem State.clearCause_recorded (k : Key) (s : State) : s.recorded (s.clearCause k) := State.clearCause_eq k s

/-- The heads' end of a run (R152). -/
theorem State.endHeads_eq (s : State) : s.endHeads = { s with
    heads := s.heads.map HeadRecord.endRun, conditions := s.endHeads.conditions, changes := s.endHeads.changes } := by
  have quiet : s.recorded (allHeads.foldl (fun s h => s.clearCause (.threadLoose h)) s) :=
    foldl_related (R := State.recorded) (fun _ => rfl) State.recorded_trans
      (fun t h => t.clearCause_recorded (.threadLoose h)) allHeads s
  unfold State.endHeads
  dsimp only
  generalize allHeads.foldl (fun s h => State.clearCause (.threadLoose h) s) s = x at quiet ⊢
  have tests := State.testThreadBreaks_eq { x with heads := x.heads.map HeadRecord.endRun }
  generalize State.testThreadBreaks _ = t at tests ⊢
  rw [tests, quiet]

/-- The state of a run that has ended, before its heads' end and the band test. -/
def State.runEnded (result : RunResult) (reason : StopReason) (s : State) : State :=
  { s with
    walk := none, queue := []
    feed := { s.feed with activity := .idle, blocked := false }
    burst := s.idledBurst
    frame := { s.frame with residual := none }
    shaft := { s.shaft with active := none, pendingFlag := false, stopReq := .none }
    link := { s.link with runChange := true }
    run := { s.run with
      state := .idle, reason := reason, result := result, blockEnd := false, chain := none, visited := []
      resume := none, pendingStop := false } }

/-- The causes that clear at the end of a run (R152). -/
def State.runEndedCleared (result : RunResult) (reason : StopReason) (s : State) : State :=
  (((s.runEnded result reason).clearCause .frameLimit).clearCause .recordFault).clearCause .needleUnmatched

theorem State.runEndedCleared_recorded (result : RunResult) (reason : StopReason) (s : State) :
    (s.runEnded result reason).recorded (s.runEndedCleared result reason) :=
  State.recorded_trans (State.recorded_trans (State.clearCause_recorded _ _) (State.clearCause_recorded _ _))
    (State.clearCause_recorded _ _)

theorem State.endRun_def (result : RunResult) (reason : StopReason) (s : State) :
    s.endRun result reason = (s.runEndedCleared result reason).endHeads.latchesOffAtRest.bandCheck := rfl

theorem State.runEndedHeads_eq (result : RunResult) (reason : StopReason) (s : State) :
    (s.runEndedCleared result reason).endHeads = { s.runEnded result reason with
      heads := s.heads.map HeadRecord.endRun
      conditions := (s.runEndedCleared result reason).endHeads.conditions
      changes := (s.runEndedCleared result reason).endHeads.changes } := by
  have cleared := s.runEndedCleared_recorded result reason
  generalize s.runEndedCleared result reason = x at cleared ⊢
  have eq := x.endHeads_eq
  generalize x.endHeads = y at eq ⊢
  rw [eq, cleared]
  rfl

/-- The end of a run, written out (R152, R164). -/
theorem State.endRun_eq (result : RunResult) (reason : StopReason) (s : State) : s.endRun result reason =
    { s.runEnded result reason with
      shaft := Shaft.bandCheck s.config (s.runEnded result reason).shaft
      heads := (s.endRun result reason).heads
      conditions := (s.endRun result reason).conditions, changes := (s.endRun result reason).changes } := by
  have eq := s.runEndedHeads_eq result reason
  rw [State.endRun_def]
  generalize (s.runEndedCleared result reason).endHeads = x at eq ⊢
  unfold State.latchesOffAtRest State.bandCheck State.latchesOff
  split
  all_goals
    rw [eq]
    rfl

theorem State.endRun_head (result : RunResult) (reason : StopReason) (s : State) (h : Head) :
    (s.endRun result reason).heads.get h =
      { (s.heads.get h).endRun with latch := (s.heads.get h).latch && !s.shaft.atRest } := by
  have eq := s.runEndedHeads_eq result reason
  rw [State.endRun_def]
  generalize (s.runEndedCleared result reason).endHeads = x at eq ⊢
  have shaft : x.shaft.atRest = s.shaft.atRest ∧ x.shaft.pendingFlag = false := by rw [eq]; exact ⟨rfl, rfl⟩
  have heads : x.heads.get h = (s.heads.get h).endRun := by rw [eq, Table.get_map]
  change x.latchesOffAtRest.heads.get h = _
  rw [State.latchesOffAtRest, shaft.1, shaft.2]
  cases s.shaft.atRest with
  | true => simp [State.latchesOff, heads]
  | false =>
    rw [if_neg (by simp), heads, Bool.not_false, Bool.and_true]
    rfl

theorem State.endRun_run (result : RunResult) (reason : StopReason) (s : State) :
    (s.endRun result reason).run = (s.runEnded result reason).run := by rw [State.endRun_eq]

section Rows

variable (readable : s.headReadable = true)

section
include readable

theorem State.whenStill_empty_held (empty : s.queue = []) (pending : s.run.pendingStop = true) :
    s.whenStill = s.enterStopped s.run.reason :=
  State.whenStill_once readable (by simp only [State.dealHead, empty, pending, if_true]) (.inl rfl)

theorem State.whenStill_empty_waits (empty : s.queue = []) (free : s.run.pendingStop = false) : s.whenStill = s :=
  State.whenStill_once readable (by simp [State.dealHead, empty, free]) (.inr (.inl rfl))

end

variable (queue : s.queue = e :: rest)
include queue

theorem State.dealHead_record (plain : e.isMovement = true ∨ e.kind = .trim) (within : e.limit = false) :
    s.dealHead = s.dealRecord e rest := by
  rw [State.dealHead_cons queue]
  cases kind : e.kind <;> simp [Entry.isMovement, kind] at plain <;> simp [State.dealEntry, kind, within]

theorem State.dealHead_colour {code : Half} (colour : e.kind = .colour code) (free : s.blockEndDue = false) :
    s.dealHead = s.beginChange e code := by
  rw [State.dealHead_cons queue]
  simp [State.dealEntry, colour, free]

include readable

theorem State.whenStill_pause (pause : e.kind = .pause) : s.whenStill =
    ({ s with queue := rest, run := { s.run with chain := some e.pos } } : State).enterStopped .pause :=
  State.whenStill_once readable
    (by rw [State.dealHead_cons queue]; simp only [State.dealEntry, pause]) (.inl rfl)

theorem State.whenStill_fault {reason : FaultReason} (fault : e.kind = .fault reason) : s.whenStill =
    (s.openCause .recordFault none (.recordFault reason) (some e.pos)).enterStopped .recordFault :=
  State.whenStill_once readable
    (by rw [State.dealHead_cons queue]; simp only [State.dealEntry, fault]) (.inl rfl)

theorem State.whenStill_limit (moves : e.isMovement = true) (limit : e.limit = true) :
    s.whenStill = s.limitStop e := by
  refine State.whenStill_once readable ?_ (.inl rfl)
  rw [State.dealHead_cons queue]
  cases kind : e.kind <;> simp [Entry.isMovement, kind] at moves <;> simp [State.dealEntry, kind, limit]

section Record

variable (plain : e.isMovement = true ∨ e.kind = .trim) (within : e.limit = false)
include plain within

theorem State.whenStill_record_held (pending : s.run.pendingStop = true) : s.whenStill = s.enterStopped s.run.reason :=
  State.whenStill_once readable ((State.dealHead_record queue plain within).trans (if_pos pending)) (.inl rfl)

theorem State.whenStill_record_waits (free : s.run.pendingStop = false) (unready : s.mayBeginAtRest = false) :
    s.whenStill = s := by
  refine State.whenStill_once readable ((State.dealHead_record queue plain within).trans ?_) (.inr (.inl rfl))
  simp [State.dealRecord, free, unready]

/-- The state from which a record begins at rest (R98). -/
def State.fromRest (s : State) : State := { s with shaft := { s.shaft with vPrev := s.config.speedMin } }

theorem State.whenStill_record_begins (free : s.run.pendingStop = false) (ready : s.mayBeginAtRest = true)
    (turns : e.stationary = false) : s.whenStill = s.fromRest.beginPoint e rest := by
  refine State.whenStill_once readable ((State.dealHead_record queue plain within).trans ?_) (.inl ?_)
  · simp [State.dealRecord, free, ready, turns, State.fromRest]
  · rw [State.beginPoint_eq]
    simp [State.headReadable]

theorem State.whenStill_record_stationary (free : s.run.pendingStop = false) (ready : s.mayBeginAtRest = true)
    (stationary : e.stationary = true) : s.whenStill = s.fromRest.takeStationary e rest := by
  refine State.whenStill_once readable ((State.dealHead_record queue plain within).trans ?_) (.inl ?_)
  · simp [State.dealRecord, free, ready, stationary, State.fromRest]
  · simp [State.headReadable, State.takeStationary, State.beginMove]

end Record

theorem State.whenStill_blockEnd (ends : (∃ code, e.kind = .colour code) ∨ e.kind = .endMain)
    (due : s.blockEndDue = true) : s.whenStill = s.blockEndStop := by
  refine State.whenStill_once readable ?_ (.inl rfl)
  rw [State.dealHead_cons queue]
  rcases ends with ⟨code, kind⟩ | kind <;> simp [State.dealEntry, kind, due]

theorem State.whenStill_endMain (ends : e.kind = .endMain) (free : s.blockEndDue = false) :
    s.whenStill = s.endRun .complete .none := by
  refine State.whenStill_once readable ?_ (.inl (State.unreadable_of_sewing ?_))
  · rw [State.dealHead_cons queue]
    simp [State.dealEntry, ends, free]
  · rw [State.sewing, State.endRun_run]
    rfl

end Rows

end Sys2Proof.Machine
end

section
/-! PROOFS. The heads at a colour change and at START and RESUME, one after another (R144, R146, R147, R151). -/

namespace Sys2Proof.Machine

variable {s t : State} {h : Head}

/-! ## Work on every enabled head -/

/-- Work on each enabled head, in ascending number. -/
def State.eachEnabled (f : Head → State → State) (s : State) : State :=
  allHeads.foldl (fun s h => if s.enabled h then f h s else s) s

theorem State.onHead.enabled (w : s.onHead h t) (g : Head) : t.enabled g = s.enabled g := by rw [w.frame]; rfl

section Each

variable {f : Head → State → State} (on : ∀ (s : State) (h : Head), s.onHead h (f h s))
include on

theorem State.eachEnabled_charges (s : State) : s.charges (s.eachEnabled f) := by
  refine foldl_related State.charges.refl State.charges.trans (fun t h => ?_) allHeads s
  split
  · exact ⟨(on t h).frame, (on t h).threads⟩
  · exact State.charges.refl t

theorem State.eachEnabled_entries (s : State) {key : Key}
    (apart : ∀ h, key ≠ .threadBreak h ∧ key ≠ .threadLoose h ∧ key ≠ .bobbinLow h) :
    (s.eachEnabled f).entries key = s.entries key := by
  refine foldl_keeps (fun t : State => t.entries key) _ (fun t h => ?_) allHeads s
  split
  · exact (on t h).entries key (apart h).1 (apart h).2.1 (apart h).2.2
  · rfl

variable (sees : ∀ {s t : State} {h : Head}, s.seesSame h t → s.run.frontier = t.run.frontier →
  (f h s).seesSame h (f h t))
include sees

/-- The work does for each enabled head what it does for that one alone, and nothing for the others. -/
theorem State.eachEnabled_view (s : State) (h : Head) :
    (s.eachEnabled f).headView h = if s.enabled h then (f h s).headView h else s.headView h := by
  refine (foldl_heads State.headView (fun s => (s.headCommon, s.enable, s.run.frontier)) (fun s h => ?_)
    (fun s h g apart => ?_) (fun s t h common view => ?_) s h).trans ?_
  · split
    · rw [(on s h).common, (on s h).frame]
    · rfl
  · split
    · exact (on s h).view apart
    · rfl
  · simp only [Prod.mk.injEq] at common
    obtain ⟨common, enable, frontier⟩ := common
    have same := State.seesSame_of_views common view
    have enabled : s.enabled h = t.enabled h := by unfold State.enabled; rw [enable, same.config]
    rw [enabled]
    split
    · exact (sees same frontier).view
    · exact view
  · split <;> rfl

end Each

theorem State.headView_heads (view : s.headView h = t.headView h) : s.heads.get h = t.heads.get h :=
  congrArg Prod.fst view

/-! ## The colour-change rule (R146) -/

theorem State.seesSame.readyNow (e : s.seesSame h t) : s.readyNow h = t.readyNow h := by
  unfold State.readyNow State.needleState
  rw [e.needle]
  cases t.run.needle with
  | none => rfl
  | some n => exact congrArg (fun x => decide (x = NeedleState.ready)) (e.states n)

theorem State.onHead.openThreadBreak (cause : BreakCause) (p : Option Position) (s : State) :
    s.onHead h (s.openThreadBreak h cause p) := State.onHead.openCause (.inl rfl) _ _ _ _

theorem State.seesSame.openThreadBreak (e : s.seesSame h t) (cause : BreakCause) (p : Option Position) :
    (s.openThreadBreak h cause p).seesSame h (t.openThreadBreak h cause p) := by
  unfold State.openThreadBreak
  rw [e.needle]
  exact e.openCause _ _ _

theorem State.colourHead_onHead (position : Option Position) (s : State) (h : Head) :
    s.onHead h (s.colourHead position h) := by
  have drops (r : HeadRecord) : s.onHead h ((s.setHead h r).openThreadBreak h .needleNotReady position) :=
    (State.onHead.setHead r s).trans (State.onHead.openThreadBreak _ _ _)
  have stops : s.onHead h (if s.config.breakPolicy = .stop then (s.colourDropped position h).requestStop .breakStop
      else s.colourDropped position h) := by
    split
    · exact (drops _).trans (State.onHead.requestStop _ _)
    · exact drops _
  cases ready : s.readyNow h <;> cases state : (s.heads.get h).state
  case false.off | true.off => rw [State.colourHead_off state]; exact State.onHead.refl h s
  case false.idle | true.idle => simp only [State.colourHead, ready, state]; exact State.onHead.refl h s
  case false.sewing => rw [State.colourHead_unready_sews ready (.inr state)]; exact stops
  case false.waiting m => rw [State.colourHead_unready_sews ready (.inl ⟨m, state⟩)]; exact stops
  case false.broken m => rw [State.colourHead_unready_broken ready state]; exact drops _
  case true.sewing => rw [State.colourHead_ready ready (.inl (.inr state))]; exact State.onHead.setHead _ s
  case true.waiting m => rw [State.colourHead_ready ready (.inl (.inl ⟨m, state⟩))]; exact State.onHead.setHead _ s
  case true.broken m => rw [State.colourHead_ready ready (.inr ⟨m, state⟩)]; exact State.onHead.setHead _ s

theorem State.colourHead_seesSame (position : Option Position) (e : s.seesSame h t) :
    (s.colourHead position h).seesSame h (t.colourHead position h) := by
  have stops {u v : State} (same : u.seesSame h v) : (if s.config.breakPolicy = .stop then u.requestStop .breakStop
      else u).seesSame h (if t.config.breakPolicy = .stop then v.requestStop .breakStop else v) := by
    rw [e.config]
    split
    · exact ((same.requestStop_left _).symm.requestStop_left _).symm
    · exact same
  unfold State.colourHead
  rw [e.record, e.readyNow, e.blockStart]
  dsimp only
  split
  · split
    · exact e.setHead _
    · exact e.setHead _
    · exact e.setHead _
    · exact e
    · exact e
  · split
    · exact stops ((e.setHead _).openThreadBreak _ _)
    · exact stops ((e.setHead _).openThreadBreak _ _)
    · exact (e.setHead _).openThreadBreak _ _
    · exact e
    · exact e

/-- An enabled sound head drops out at a colour change (R146). -/
def State.lostAt (s : State) (h : Head) : Prop :=
  s.enabled h = true ∧ s.readyNow h = false ∧ (s.heads.get h).state.isSound = true

theorem State.lostAt_congr (same : s.seesSame h t) (enabled : s.enabled h = t.enabled h) : s.lostAt h ↔ t.lostAt h := by
  unfold State.lostAt
  rw [enabled, same.readyNow, same.record]

/-- A stop asked for while a colour change is made, unless one is pending (R104). -/
def Run.hold (reason : StopReason) (r : Run) : Run :=
  if r.pendingStop then r else { r with pendingStop := true, reason := reason }

theorem Run.hold_twice (reason other : StopReason) (r : Run) : (r.hold reason).hold other = r.hold reason := by
  unfold Run.hold
  cases pending : r.pendingStop <;> simp [pending]

theorem State.requestStop_changing (changing : s.run.state = .changing) (reason : StopReason) :
    s.requestStop reason = { s with run := s.run.hold reason } := by
  rw [State.requestStop_of_changing changing, Run.hold]
  split <;> rfl

theorem State.colourHead_run (changing : s.run.state = .changing) (position : Option Position) (h : Head) :
    (s.colourHead position h).shaft = s.shaft ∧ (s.colourHead position h).run =
      if s.readyNow h = false ∧ (s.heads.get h).state.isSound = true ∧ s.config.breakPolicy = .stop
      then s.run.hold .breakStop else s.run := by
  have stops : State.shaft (if s.config.breakPolicy = .stop then (s.colourDropped position h).requestStop .breakStop
      else s.colourDropped position h) = s.shaft ∧
      State.run (if s.config.breakPolicy = .stop then (s.colourDropped position h).requestStop .breakStop
      else s.colourDropped position h) = if s.config.breakPolicy = .stop then s.run.hold .breakStop else s.run := by
    split
    · rw [State.requestStop_changing (s := s.colourDropped position h) changing]
      exact ⟨rfl, rfl⟩
    · exact ⟨rfl, rfl⟩
  cases ready : s.readyNow h <;> cases state : (s.heads.get h).state
  case false.off | true.off => rw [State.colourHead_off state]; simp [HeadState.isSound]
  case false.idle | true.idle => simp [State.colourHead, ready, state, HeadState.isSound]
  case false.sewing =>
    rw [State.colourHead_unready_sews ready (.inr state)]
    simpa [HeadState.isSound] using stops
  case false.waiting m =>
    rw [State.colourHead_unready_sews ready (.inl ⟨m, state⟩)]
    simpa [HeadState.isSound] using stops
  case false.broken m =>
    rw [State.colourHead_unready_broken ready state]
    simp [HeadState.isSound, State.openThreadBreak]
  case true.sewing => rw [State.colourHead_ready ready (.inl (.inr state))]; simp
  case true.waiting m => rw [State.colourHead_ready ready (.inl (.inl ⟨m, state⟩))]; simp
  case true.broken m => rw [State.colourHead_ready ready (.inr ⟨m, state⟩)]; simp

/-- The first of the sound heads that drop out asks for the stop that the policy gives (R146). -/
theorem State.colourFold_run {xs : List Head} (nodup : xs.Nodup) (changing : s.run.state = .changing)
    (position : Option Position) :
    let t := xs.foldl (fun s h => if s.enabled h then s.colourHead position h else s) s
    t.shaft = s.shaft ∧
    ((∃ h ∈ xs, s.lostAt h) → s.config.breakPolicy = .stop → t.run = s.run.hold .breakStop) ∧
    ((∀ h ∈ xs, ¬s.lostAt h) ∨ s.config.breakPolicy ≠ .stop → t.run = s.run) := by
  induction xs generalizing s with
  | nil => exact ⟨rfl, fun ⟨_, mem, _⟩ => absurd mem List.not_mem_nil, fun _ => rfl⟩
  | cons x xs ih =>
    obtain ⟨fresh, nodup⟩ := List.nodup_cons.1 nodup
    have step : ∃ u, (if s.enabled x then s.colourHead position x else s) = u ∧ s.onHead x u ∧ u.shaft = s.shaft ∧
        (s.lostAt x → s.config.breakPolicy = .stop → u.run = s.run.hold .breakStop) ∧
        (¬s.lostAt x ∨ s.config.breakPolicy ≠ .stop → u.run = s.run) := by
      by_cases enabled : s.enabled x = true
      · have worked := State.colourHead_run changing position x
        refine ⟨_, if_pos enabled, State.colourHead_onHead position s x, worked.1, fun lost policy => ?_, fun quiet => ?_⟩
        · exact worked.2.trans (if_pos ⟨lost.2.1, lost.2.2, policy⟩)
        · refine worked.2.trans (if_neg fun ⟨unready, sound, policy⟩ => ?_)
          exact quiet.elim (· ⟨enabled, unready, sound⟩) (· policy)
      · exact ⟨_, if_neg enabled, State.onHead.refl x s, rfl, fun lost => absurd lost.1 enabled, fun _ => rfl⟩
    obtain ⟨u, step, on, shaft, asked, unasked⟩ := step
    have config : u.config = s.config := by rw [on.frame]
    have later {g : Head} (mem : g ∈ xs) : u.lostAt g ↔ s.lostAt g :=
      State.lostAt_congr (State.seesSame_of_views on.common (on.view fun e => fresh (e ▸ mem))) (on.enabled g)
    have changing' : u.run.state = .changing := by
      by_cases lost : s.lostAt x ∧ s.config.breakPolicy = .stop
      · rw [asked lost.1 lost.2, Run.hold]
        split <;> exact changing
      · rw [unasked (not_and_or.1 lost), changing]
    obtain ⟨shaft', stops, goesOn⟩ := ih nodup changing'
    rw [List.foldl_cons, step]
    refine ⟨shaft'.trans shaft, fun ⟨g, mem, lost⟩ policy => ?_, fun quiet => ?_⟩
    · have first : u.run.hold .breakStop = s.run.hold .breakStop := by
        by_cases own : s.lostAt x
        · rw [asked own policy, Run.hold_twice]
        · rw [unasked (.inl own)]
      by_cases more : ∃ g ∈ xs, u.lostAt g
      · exact (stops more (config ▸ policy)).trans first
      · have none_ : ∀ g ∈ xs, ¬u.lostAt g := fun g mem lost => more ⟨g, mem, lost⟩
        have own : s.lostAt x := by
          rcases List.mem_cons.1 mem with rfl | mem
          · exact lost
          · exact absurd ((later mem).2 lost) (none_ g mem)
        exact (goesOn (.inl none_)).trans (asked own policy)
    · refine (goesOn ?_).trans (unasked ?_)
      · exact quiet.imp (fun none_ g mem => mt (later mem).1 (none_ g (List.mem_cons_of_mem x mem))) (config ▸ ·)
      · exact quiet.imp_left fun none_ => none_ x List.mem_cons_self

/-! ## Every head at a colour change (R144, R146) -/

/-- The record of an enabled head behind the colour-change rule, row by row (R146). -/
def State.colourRow (s : State) (h : Head) : HeadRecord :=
  match (s.heads.get h).state with
  | .off => s.heads.get h
  | .idle => s.heads.get h
  | .sewing => if s.readyNow h then (s.heads.get h).toSewing
               else (s.heads.get h).toBroken (satOrdinal (s.run.blockStart + 1))
  | .waiting _ => if s.readyNow h then (s.heads.get h).toSewing
                  else (s.heads.get h).toBroken (satOrdinal (s.run.blockStart + 1))
  | .broken _ => if s.readyNow h then (s.heads.get h).toSewing
                 else { s.heads.get h with state := .broken (satOrdinal (s.run.blockStart + 1)) }

/-- The record of a head behind the colour-change rule (R146). -/
def State.colourRecord (s : State) (h : Head) : HeadRecord :=
  if s.enabled h then s.colourRow h else s.heads.get h

/-- The heads behind the colour-change rule, before the tests. -/
def State.colourFold (position : Option Position) (s : State) : State := s.eachEnabled (State.colourHead position)

theorem State.colourHeads_def (position : Option Position) (s : State) :
    s.colourHeads position = (s.colourFold position).noHeadsTest.testThreadBreaks := rfl

theorem State.colourFold_view (position : Option Position) (s : State) (h : Head) :
    (s.colourFold position).headView h = if s.enabled h then (s.colourHead position h).headView h else s.headView h :=
  State.eachEnabled_view (fun s h => State.colourHead_onHead position s h)
    (fun same _ => State.colourHead_seesSame position same) s h

theorem State.colourHead_get (position : Option Position) (s : State) (h : Head) :
    (s.colourHead position h).heads.get h = s.colourRow h := by
  have dropped : State.heads (if s.config.breakPolicy = .stop then (s.colourDropped position h).requestStop .breakStop
      else s.colourDropped position h) = s.heads.set h ((s.heads.get h).toBroken (satOrdinal (s.run.blockStart + 1))) := by
    split
    · rw [State.requestStop_heads]; rfl
    · rfl
  unfold State.colourRow
  cases ready : s.readyNow h <;> cases state : (s.heads.get h).state
  case false.off | true.off => rw [State.colourHead_off state]
  case false.idle | true.idle => simp only [State.colourHead, ready, state]; rfl
  case false.sewing => rw [State.colourHead_unready_sews ready (.inr state), dropped, Table.get_set_self]; rfl
  case false.waiting m => rw [State.colourHead_unready_sews ready (.inl ⟨m, state⟩), dropped, Table.get_set_self]; rfl
  case false.broken m => rw [State.colourHead_unready_broken ready state]; exact Table.get_set_self ..
  case true.sewing => rw [State.colourHead_ready ready (.inl (.inr state))]; exact Table.get_set_self ..
  case true.waiting m => rw [State.colourHead_ready ready (.inl (.inl ⟨m, state⟩))]; exact Table.get_set_self ..
  case true.broken m => rw [State.colourHead_ready ready (.inr ⟨m, state⟩)]; exact Table.get_set_self ..

theorem State.colourFold_get (position : Option Position) (s : State) (h : Head) :
    (s.colourFold position).heads.get h = s.colourRecord h := by
  have view := State.headView_heads (s := s.colourFold position) (t := if s.enabled h then s.colourHead position h else s)
    ((s.colourFold_view position h).trans (by split <;> rfl))
  rw [view, State.colourRecord]
  split
  · rw [State.colourHead_get]
  · rfl

/-- A head that drops out, or is not taken back, has its cause open (R146). -/
theorem State.colourFold_opened {position : Option Position} (enabled : s.enabled h = true)
    (unready : s.readyNow h = false)
    (state : (s.heads.get h).state.isSound = true ∨ ∃ m, (s.heads.get h).state = .broken m) :
    ∃ c, (s.colourFold position).condition? (.threadBreak h) = some c ∧ c.state = .opened ∧
      c.detail = .threadBreak .needleNotReady ∧ c.needle = s.run.needle ∧ c.ordinal = s.run.ordinal ∧
      c.position = position := by
  have view := s.colourFold_view position h
  rw [if_pos enabled] at view
  rw [State.condition?_of_entries (State.entries_of_view view (by simp))]
  have stops : ((if s.config.breakPolicy = .stop then (s.colourDropped position h).requestStop .breakStop
      else s.colourDropped position h) : State).condition? (.threadBreak h) =
      (s.colourDropped position h).condition? (.threadBreak h) := by
    split
    · unfold State.condition?; rw [State.requestStop_conditions]
    · rfl
  have dropped := State.condition?_openThreadBreak
    (s.setHead h ((s.heads.get h).toBroken (satOrdinal (s.run.blockStart + 1)))) h .needleNotReady position
  rcases state with sound | ⟨m, broken⟩
  · have sews : (∃ m, (s.heads.get h).state = .waiting m) ∨ (s.heads.get h).state = .sewing := by
      cases state : (s.heads.get h).state <;> simp [HeadState.isSound, state] at sound ⊢
    rw [State.colourHead_unready_sews unready sews, stops]
    exact dropped
  · rw [State.colourHead_unready_broken unready broken]
    exact State.condition?_openThreadBreak _ h .needleNotReady position

theorem State.colourHead_needles (position : Option Position) (s : State) (h : Head) :
    (s.colourHead position h).needles = s.needles := by
  unfold State.colourHead
  dsimp only
  split
  · split <;> rfl
  · split
    case h_1 | h_2 =>
      split
      · exact State.requestStop_needles _ _
      · rfl
    all_goals rfl

theorem State.colourFold_eq (changing : s.run.state = .changing) (position : Option Position) :
    s.colourFold position = { s with
      heads := (s.colourFold position).heads, conditions := (s.colourFold position).conditions
      changes := (s.colourFold position).changes, run := (s.colourFold position).run } := by
  have frame := (State.eachEnabled_charges (fun s h => State.colourHead_onHead position s h) s).frame
  have needles : (s.eachEnabled (State.colourHead position)).needles = s.needles :=
    foldl_keeps State.needles _ (fun t h => by split; exact t.colourHead_needles position h; rfl) allHeads s
  have shaft : (s.eachEnabled (State.colourHead position)).shaft = s.shaft :=
    (State.colourFold_run allHeads_nodup changing position).1
  unfold State.colourFold
  generalize s.eachEnabled (State.colourHead position) = x at frame needles shaft ⊢
  rw [needles, shaft] at frame
  rw [frame]

theorem Run.hold_eq (reason : StopReason) (r : Run) : r.hold reason = { r with
    pendingStop := (r.hold reason).pendingStop, reason := (r.hold reason).reason } := by
  unfold Run.hold
  split <;> rfl

theorem Run.hold_of_pending {r : Run} (pending : r.pendingStop = true) (reason : StopReason) : r.hold reason = r :=
  if_pos pending

theorem Run.hold_of_free {r : Run} (free : r.pendingStop = false) (reason : StopReason) :
    r.hold reason = { r with pendingStop := true, reason := reason } := if_neg (by simp [free])

/-- No head is SEWING or WAITING behind the colour-change rule (R144). -/
def State.noneAfterColour (s : State) : Prop := ∀ h, (s.colourRecord h).state.isSound = false

/-- The colour-change rule and its tests (R144, R146, R151). -/
structure State.colouredTo (position : Option Position) (s t : State) : Prop where
  frame : t = { s with heads := t.heads, conditions := t.conditions, changes := t.changes, run := t.run }
  record : ∀ h, t.heads.get h = s.colourRecord h
  opened : ∀ h, s.enabled h = true → s.readyNow h = false →
    ((s.heads.get h).state.isSound = true ∨ ∃ m, (s.heads.get h).state = .broken m) →
    ∃ c, t.condition? (.threadBreak h) = some c ∧ c.state = .opened ∧
      c.detail = .threadBreak .needleNotReady ∧ c.needle = s.run.needle ∧ c.ordinal = s.run.ordinal ∧
      c.position = position
  others : ∀ key, (∀ h, key ≠ .threadBreak h ∧ key ≠ .threadLoose h ∧ key ≠ .bobbinLow h) →
    t.entries key = s.entries key
  lost : (∃ h, s.lostAt h) → s.config.breakPolicy = .stop → t.run = s.run.hold .breakStop
  none_ : (∀ h, ¬s.lostAt h) ∨ s.config.breakPolicy ≠ .stop → s.noneAfterColour → t.run = s.run.hold .noHeads
  left_ : (∀ h, ¬s.lostAt h) ∨ s.config.breakPolicy ≠ .stop → ¬s.noneAfterColour → t.run = s.run

theorem State.colourHeads_colouredTo (changing : s.run.state = .changing) (position : Option Position) :
    s.colouredTo position (s.colourHeads position) := by
  have frame := State.colourFold_eq changing position
  have record := s.colourFold_get position
  obtain ⟨-, stops, goesOn⟩ := State.colourFold_run allHeads_nodup changing position
  have others (key : Key) := State.eachEnabled_entries (key := key) (fun s h => State.colourHead_onHead position s h) s
  have opened {h : Head} := State.colourFold_opened (s := s) (h := h) (position := position)
  rw [State.colourHeads_def]
  change _ → _ → (s.colourFold position).run = _ at stops
  change _ → (s.colourFold position).run = _ at goesOn
  change ∀ key, _ → (s.colourFold position).entries key = _ at others
  generalize s.colourFold position = x at frame record stops goesOn others opened
  have anySound : x.anySound = true ↔ ¬s.noneAfterColour := by
    simp [State.anySound_iff, State.noneAfterColour, record]
  have state : x.run.state = .changing := by
    by_cases lost : (∃ h, s.lostAt h) ∧ s.config.breakPolicy = .stop
    · obtain ⟨⟨h, lost⟩, policy⟩ := lost
      rw [stops ⟨h, mem_allHeads h, lost⟩ policy, Run.hold_eq]
      exact changing
    · rw [goesOn ((not_and_or.1 lost).imp_left fun none_ h _ lost => none_ ⟨h, lost⟩), changing]
  have tested : ∃ y, x.noHeadsTest = y ∧ y = { x with run := y.run } ∧
      (s.noneAfterColour → y.run = x.run.hold .noHeads) ∧ (¬s.noneAfterColour → y.run = x.run) := by
    by_cases none_ : s.noneAfterColour
    · have nobody : x.anySound = false := by rw [Bool.eq_false_iff, ne_eq, anySound, not_not]; exact none_
      exact ⟨_, (State.noHeadsTest_none nobody).trans (State.requestStop_changing state .noHeads), rfl, fun _ => rfl,
        fun some_ => absurd none_ some_⟩
    · exact ⟨_, State.noHeadsTest_sound (anySound.2 none_), rfl, fun h => absurd h none_, fun _ => rfl⟩
  obtain ⟨y, tested, frame', nobody, somebody⟩ := tested
  rw [tested]
  have heads : y.heads = x.heads := by rw [frame']
  have entries (key : Key) : y.entries key = x.entries key := by unfold State.entries; rw [frame']
  have final := y.testThreadBreaks_eq
  have breaks := y.entries_testThreadBreaks
  have apart {key : Key} := y.entries_testThreadBreaks_ne (k := key)
  generalize y.testThreadBreaks = t at final breaks apart
  have theads : t.heads = x.heads := by rw [final, frame']
  have trun : t.run = y.run := by rw [final]
  refine ⟨?_, fun h => theads ▸ record h, fun h enabled unready state => ?_, fun key other => ?_,
    fun ⟨h, lost⟩ policy => ?_, fun quiet none_ => ?_, fun quiet some_ => ?_⟩
  · rw [final, frame', frame]
  · obtain ⟨c, found, rest⟩ := opened enabled unready state
    refine ⟨c, ?_, rest⟩
    have broken : (y.heads.get h).state.isBroken = true := by
      rw [heads, record, State.colourRecord, if_pos enabled, State.colourRow]
      cases own : (s.heads.get h).state <;> simp [own, unready, HeadState.isSound] at state ⊢ <;>
        simp [HeadState.isBroken, HeadRecord.toBroken]
    have kept := breaks h
    rw [broken, Bool.true_or, if_pos rfl] at kept
    rw [State.condition?_of_entries (kept.trans (entries _)), found]
  · exact (apart fun g => (other g).1).trans ((entries key).trans (others key other))
  · have asked := stops ⟨h, mem_allHeads h, lost⟩ policy
    rw [trun]
    by_cases none_ : s.noneAfterColour
    · rw [nobody none_, asked, Run.hold_twice]
    · rw [somebody none_, asked]
  · rw [trun, nobody none_, goesOn (quiet.imp_left fun none_ h _ => none_ h)]
  · rw [trun, somebody some_, goesOn (quiet.imp_left fun none_ h _ => none_ h)]

end Sys2Proof.Machine
end

section
/-! PROOFS. The carriage's faults and the end of a colour change (R123, R124, R128, R129, R146). -/

namespace Sys2Proof.Machine

variable {s t : State} {e : Entry} {rest : List Entry} {n : Needle}

/-! ## Faults -/

/-- The cause that a carriage fault opens. -/
def State.carriageCause (fault : CarriageFault) (target : Option Needle) (s : State) : State :=
  { s with carriage := { s.carriage with state := .idle } }.openCause .carriageFault target (.carriage fault)
    s.colourPosition

theorem State.carriageFault_eq (fault : CarriageFault) (target : Option Needle) (s : State) :
    s.carriageFault fault target = if s.run.state = .changing then
      (s.carriageCause fault target).enterStopped .carriageFault else s.carriageCause fault target := rfl

theorem State.colourPosition_of_changing (changing : s.run.state = .changing) (queue : s.queue = e :: rest) :
    s.colourPosition = some e.pos := by simp [State.colourPosition, changing, queue]

theorem State.colourPosition_of_other (other : s.run.state = .idle ∨ s.run.state = .stopped) :
    s.colourPosition = none := by rcases other with h | h <;> simp only [State.colourPosition, h]

theorem State.condition?_carriageCause (fault : CarriageFault) (target : Option Needle) (s : State) :
    ∃ c, (s.carriageCause fault target).condition? .carriageFault = some c ∧ c.state = .opened ∧
      c.detail = .carriage fault ∧ c.needle = target ∧ c.ordinal = s.run.ordinal ∧ c.position = s.colourPosition :=
  State.condition?_openCause ..

/-! ## The end of a colour change -/

/-- The run at the needle selected, the COLOUR record executed (R55, R123, R124). -/
def State.atNeedle (n : Needle) (s : State) : State :=
  { s with run := { s.run with needle := some n, blockStart := s.run.ordinal, blockEnd := false } }

/-- What the end of a colour change for the entry `e` leaves, before the run goes on or is held (R123, R146). -/
structure State.changedTo (n : Needle) (e : Entry) (rest : List Entry) (s t : State) : Prop where
  frame : t = { s with
    heads := t.heads, conditions := t.conditions, changes := t.changes, queue := rest, run := t.run }
  record : ∀ h, t.heads.get h = (s.atNeedle n).colourRecord h
  opened : ∀ h, s.enabled h = true → (s.atNeedle n).readyNow h = false →
    ((s.heads.get h).state.isSound = true ∨ ∃ m, (s.heads.get h).state = .broken m) →
    ∃ c, t.condition? (.threadBreak h) = some c ∧ c.state = .opened ∧
      c.detail = .threadBreak .needleNotReady ∧ c.needle = some n ∧ c.ordinal = s.run.ordinal ∧ c.position = some e.pos
  closed : s.conditionsSound → t.causeOpen .carriageFault = false ∧
    ∀ c, s.condition? .needleUnmatched = some c → c.position = some e.pos → t.causeOpen .needleUnmatched = false
  lost : (∃ h, (s.atNeedle n).lostAt h) → s.config.breakPolicy = .stop →
    t.run = { (s.atNeedle n).run.hold .breakStop with chain := some e.pos }
  none_ : (∀ h, ¬(s.atNeedle n).lostAt h) ∨ s.config.breakPolicy ≠ .stop → (s.atNeedle n).noneAfterColour →
    t.run = { (s.atNeedle n).run.hold .noHeads with chain := some e.pos }
  left_ : (∀ h, ¬(s.atNeedle n).lostAt h) ∨ s.config.breakPolicy ≠ .stop → ¬(s.atNeedle n).noneAfterColour →
    t.run = { (s.atNeedle n).run with chain := some e.pos }

/-- The NEEDLE_UNMATCHED cause of the COLOUR record that is executed clears (R123, R174). -/
theorem State.clearUnmatched_recorded (p : Position) (s : State) : s.recorded (s.clearUnmatched p) := by
  unfold State.clearUnmatched
  split
  · rfl
  · split
    · exact State.clearCause_recorded _ s
    · rfl

theorem State.clearUnmatched_entries_ne {k : Key} (apart : k ≠ .needleUnmatched) (p : Position) (s : State) :
    (s.clearUnmatched p).entries k = s.entries k := by
  unfold State.clearUnmatched
  split
  · rfl
  · split
    · exact State.entries_clearCause_ne apart s
    · rfl

theorem State.clearUnmatched_closed {p : Position} {c : Condition} (found : s.condition? .needleUnmatched = some c)
    (at_ : c.position = some p) : s.clearUnmatched p = s.clearCause .needleUnmatched := by
  simp only [State.clearUnmatched, found, if_pos at_]

theorem State.changeDone_changedTo (changing : s.run.state = .changing) (queue : s.queue = e :: rest) :
    ∃ t, s.changeDone n = t.afterChange ∧ s.changedTo n e rest t := by
  have cleared := State.clearCause_recorded .carriageFault (s.atNeedle n)
  have clearedEntries {k : Key} := State.entries_clearCause_ne (k := .carriageFault) (k' := k) (s := s.atNeedle n)
  have closed := State.entries_clearCause .carriageFault (s.atNeedle n)
  have shape : s.changeDone n = State.afterChange (State.clearUnmatched e.pos
      { ((s.atNeedle n).clearCause .carriageFault).colourHeads (some e.pos) with
        queue := rest
        run := { (((s.atNeedle n).clearCause .carriageFault).colourHeads (some e.pos)).run with
          chain := some e.pos } }) := by
    simp only [State.changeDone, queue, State.atNeedle]
  refine ⟨_, shape, ?_⟩
  generalize (s.atNeedle n).clearCause .carriageFault = x at cleared clearedEntries closed
  have changing' : x.run.state = .changing := by rw [cleared]; exact changing
  have coloured := State.colourHeads_colouredTo changing' (some e.pos)
  generalize x.colourHeads (some e.pos) = y at coloured
  have record (h : Head) : x.colourRecord h = (s.atNeedle n).colourRecord h := by rw [cleared]; rfl
  have lostAt (h : Head) : x.lostAt h ↔ (s.atNeedle n).lostAt h := by rw [cleared]; rfl
  have nobody : x.noneAfterColour ↔ (s.atNeedle n).noneAfterColour := by rw [cleared]; rfl
  have policy : x.config.breakPolicy = s.config.breakPolicy := by rw [cleared]; rfl
  have run : x.run = (s.atNeedle n).run := by rw [cleared]
  have unmatched : y.entries .needleUnmatched = s.entries .needleUnmatched :=
    (coloured.others _ (by simp)).trans (clearedEntries (by simp))
  have faulted : y.entries .carriageFault = clearEntries .carriageFault (s.entries .carriageFault) :=
    (coloured.others _ (by simp)).trans closed
  have done : ∃ z, ({ y with queue := rest, run := { y.run with chain := some e.pos } } : State) = z ∧
      z = { y with queue := rest, run := { y.run with chain := some e.pos } } := ⟨_, rfl, rfl⟩
  obtain ⟨z, shape, z_eq⟩ := done
  rw [shape]
  have zentries (k : Key) : z.entries k = y.entries k := by unfold State.entries; rw [z_eq]
  have final := z.clearUnmatched_recorded e.pos
  have apart {k : Key} (ne : k ≠ .needleUnmatched) := z.clearUnmatched_entries_ne ne e.pos
  have clears {c : Condition} := State.clearUnmatched_closed (s := z) (p := e.pos) (c := c)
  generalize z.clearUnmatched e.pos = t at final apart clears
  have t_run : t.run = { y.run with chain := some e.pos } := by rw [final, z_eq]
  have t_heads : t.heads = y.heads := by rw [final, z_eq]
  refine ⟨?_, fun h => ?_, fun h enabled unready state => ?_, fun sound => ⟨?_, fun c found at_ => ?_⟩,
    fun ⟨h, lost⟩ stop => ?_, fun quiet none_ => ?_, fun quiet some_ => ?_⟩
  · rw [final, z_eq, coloured.frame, cleared]
    rfl
  · rw [t_heads, coloured.record, record]
  · have same := coloured.opened h (by rw [cleared]; exact enabled) (by rw [cleared]; exact unready)
      (by rw [cleared]; exact state)
    rw [run] at same
    obtain ⟨c, found, rest⟩ := same
    refine ⟨c, ?_, rest⟩
    rw [State.condition?_of_entries ((apart (by simp)).trans (zentries _)), found]
  · rw [State.causeOpen_eq_any, apart (by simp), zentries, faulted]
    exact clearEntries_closed sound _
  · have found' : z.condition? .needleUnmatched = some c := by
      rw [State.condition?_of_entries ((zentries _).trans unmatched), found]
    rw [clears found' at_, State.causeOpen_eq_any, State.entries_clearCause, zentries, unmatched]
    exact clearEntries_closed sound _
  · rw [t_run, coloured.lost ⟨h, (lostAt h).2 lost⟩ (policy.trans stop), run]
  · rw [t_run, coloured.none_ (quiet.imp (fun q h => mt (lostAt h).1 (q h)) (policy ▸ ·)) (nobody.2 none_), run]
  · rw [t_run, coloured.left_ (quiet.imp (fun q h => mt (lostAt h).1 (q h)) (policy ▸ ·)) (mt nobody.1 some_), run]

end Sys2Proof.Machine
end

section
/-! PROOFS. The head of the queue when a parking shaft comes to rest at TDC (R95, R96, R102, R105, R122 to R124, R145,
R164). -/

namespace Sys2Proof.Machine

variable {s t x : State} {e : Entry} {rest : List Entry} {n p : Needle} {code : Half}

/-! ## Holds -/

/-- The run of `s` is held in `t` with a reason and a resume point (R57, R159). -/
def State.heldWith (s : State) (reason : StopReason) (resume : Option Position) (t : State) : Prop :=
  t.run.ordinal = s.run.ordinal ∧ t.run.frontier = s.run.frontier ∧ t.run.state = .stopped ∧
  t.run.reason = reason ∧ t.run.resume = resume ∧ t.queue = [] ∧
  t.feed.activity = .idle ∧ t.run.pendingStop = false ∧ t.shaft.stopReq = .none ∧
  t.link.runChange = true ∧ State.granted s.idledBurst s t

theorem State.heldWith_enterStopped (reason : StopReason) (ordinal : x.run.ordinal = s.run.ordinal)
    (frontier : x.run.frontier = s.run.frontier) (burst : x.burst = s.burst) (last : x.lastGranted = s.lastGranted) :
    s.heldWith reason x.holdPoint (x.enterStopped reason).arbitrate := by
  have granted : State.granted s.idledBurst s (x.enterStopped reason).arbitrate :=
    State.granted_of (by rw [State.enterStopped_eq, State.idledBurst, burst]; rfl) last
  simp only [State.heldWith, State.arbitrate_run, State.arbitrate_queue, State.arbitrate_feed, State.arbitrate_shaft,
    State.arbitrate_link]
  exact ⟨ordinal, frontier, rfl, rfl, rfl, rfl, rfl, rfl, rfl, rfl, granted⟩

theorem State.condition?_hold (k : Key) (reason : StopReason) (x : State) :
    (x.enterStopped reason).arbitrate.condition? k = x.condition? k := by
  unfold State.condition?
  rw [State.arbitrate_conditions]
  rfl

theorem State.causeOpen_hold (k : Key) (reason : StopReason) (x : State) :
    (x.enterStopped reason).arbitrate.causeOpen k = x.causeOpen k := by
  unfold State.causeOpen
  rw [State.arbitrate_conditions]
  rfl

/-- The resume point of a hold with the entries `rest` waiting (R57). -/
def resumeBehind (rest : List Entry) (fetch : Position) : Option Position :=
  match rest with
  | x :: _ => some x.pos
  | [] => some fetch

theorem State.holdPoint_eq (s : State) : s.holdPoint = resumeBehind s.queue s.feed.fetch := rfl

theorem State.holdPoint_of_queue (queue : s.queue = e :: rest) : s.holdPoint = some e.pos := by
  simp only [State.holdPoint, queue]

theorem State.holdPoint_of_empty (empty : s.queue = []) : s.holdPoint = some s.feed.fetch := by
  simp only [State.holdPoint, empty]

/-! ## A colour change at the head of the queue -/

/-- The run while a colour change is made (R122). -/
def State.changing (s : State) : State := { s with run := { s.run with state := .changing } }

theorem State.beginChange_lost (lost : s.carriagePosition = none) (e : Entry) (code : Half) :
    s.beginChange e code = (s.changing.carriageCause .lost none).enterStopped .carriageFault := by
  have lost' : State.carriagePosition { s with run := { s.run with state := .changing } } = none := lost
  simp only [State.beginChange, lost', State.carriageFault_eq, if_true]
  rfl

section Stands

variable (stands : s.carriagePosition = some p)
include stands

theorem State.beginChange_unmatched {reason : Unmatched} (unmatched : s.select code = .unmatched reason) (e : Entry) :
    s.beginChange e code = (s.changing.openCause .needleUnmatched none (.unmatched reason code)
      (some e.pos)).enterStopped .needleUnmatched := by
  have stands' : State.carriagePosition { s with run := { s.run with state := .changing } } = some p := stands
  have unmatched' : State.select { s with run := { s.run with state := .changing } } code = .unmatched reason :=
    unmatched
  simp only [State.beginChange, stands', unmatched']
  rfl

theorem State.beginChange_steps (needle : s.select code = .needle n) (apart : n ≠ p) (e : Entry) :
    s.beginChange e code = { s.changing with carriage := s.carriage.step p n } := by
  have stands' : State.carriagePosition { s with run := { s.run with state := .changing } } = some p := stands
  have needle' : State.select { s with run := { s.run with state := .changing } } code = .needle n := needle
  have at_ : needleAt s.carriage.code = some p := by
    unfold State.carriagePosition at stands
    split at stands
    · exact (Option.filter_eq_some_iff.1 stands).1
    · cases stands
  simp only [State.beginChange, stands', needle', if_neg apart, Carriage.beginMove, at_]
  rfl

theorem State.beginChange_stands (needle : s.select code = .needle p) (e : Entry) :
    s.beginChange e code = s.changing.changeDone p := by
  have stands' : State.carriagePosition { s with run := { s.run with state := .changing } } = some p := stands
  have needle' : State.select { s with run := { s.run with state := .changing } } code = .needle p := needle
  have idle : s.carriage = { s.carriage with state := .idle } := by
    unfold State.carriagePosition at stands
    split at stands
    · rename_i idle; rw [← idle]
    · cases stands
  simp only [State.beginChange, stands', needle', if_true, State.carriageDone]
  rw [← idle]
  rfl

end Stands

theorem stepToward_toward (p n : Needle) : (p.val < n.val → (stepToward p n).val = p.val + 1) ∧
    (n.val < p.val → (stepToward p n).val + 1 = p.val) := by
  unfold stepToward
  split
  · exact ⟨fun _ => rfl, fun _ => by omega⟩
  · exact ⟨fun _ => by omega, fun _ => by simp; omega⟩

section Colour

variable (readable : s.headReadable = true) (queue : s.queue = e :: rest) (colour : e.kind = .colour code)
  (free : s.blockEndDue = false)
include readable queue colour free

theorem State.whenStill_colour_lost (lost : s.carriagePosition = none) : s.whenStill =
    (s.changing.carriageCause .lost none).enterStopped .carriageFault :=
  State.whenStill_once readable ((State.dealHead_colour queue colour free).trans (State.beginChange_lost lost e code))
    (.inl rfl)

theorem State.whenStill_colour_unmatched {reason : Unmatched} (stands : s.carriagePosition = some p)
    (unmatched : s.select code = .unmatched reason) : s.whenStill =
    (s.changing.openCause .needleUnmatched none (.unmatched reason code) (some e.pos)).enterStopped
      .needleUnmatched :=
  State.whenStill_once readable
    ((State.dealHead_colour queue colour free).trans (State.beginChange_unmatched stands unmatched e)) (.inl rfl)

theorem State.whenStill_colour_steps (stands : s.carriagePosition = some p) (needle : s.select code = .needle n)
    (apart : n ≠ p) : s.whenStill = { s.changing with carriage := s.carriage.step p n } :=
  State.whenStill_once readable
    ((State.dealHead_colour queue colour free).trans (State.beginChange_steps stands needle apart e)) (.inr (.inl rfl))

/-- A change to the position where the carriage stands is done at once (R123, R124). -/
theorem State.whenStill_colour_stands (stands : s.carriagePosition = some p) (needle : s.select code = .needle p) :
    ∃ t, s.changing.changedTo p e rest t ∧ (t.run.pendingStop = true ∨ t.config.autoResume = false ∨ rest = [] →
      s.whenStill = t.afterChange) := by
  obtain ⟨t, done, changed⟩ := State.changeDone_changedTo (s := s.changing) (n := p) rfl queue
  refine ⟨t, changed, fun ends => State.whenStill_once readable ?_ ?_⟩
  · rw [State.dealHead_colour queue colour free, State.beginChange_stands stands needle, done]
  · unfold State.afterChange
    by_cases pending : t.run.pendingStop = true
    · rw [if_pos pending]; exact .inl rfl
    · rw [if_neg pending]
      by_cases auto : t.config.autoResume = true
      · rw [if_pos auto]
        rcases ends with held | manual | last
        · exact absurd held pending
        · rw [manual] at auto; cases auto
        · refine .inr (.inr ⟨?_, by simpa using pending⟩)
          change t.queue = []
          rw [changed.frame]
          exact last
      · rw [if_neg auto]; exact .inl rfl

end Colour

/-- What neither a hold nor the run going on changes is left as it was (R124). -/
theorem State.afterChange_keeps {β : Type} (f : State → β) (stops : ∀ x reason, f (State.enterStopped reason x) = f x)
    (runs : ∀ x : State, f { x with run := { x.run with state := .running } } = f x) (s : State) :
    f s.afterChange = f s := by
  unfold State.afterChange
  split
  · exact stops _ _
  · split
    · exact runs _
    · exact stops _ _

/-! ## The shaft parks at TDC -/

/-- The shaft that parks has come to rest at TDC (R92, R98, R136). -/
def State.rested (s : State) : State := { s with
  shaft := { s.shaft with state := .still, command := 0, atRest := true, vPrev := s.config.speedMin, backoff := false }
  heads := s.heads.map fun r => { r with latch := false } }

theorem State.comeToRest_rested (parking : s.shaft.state = .parking) (unpended : s.shaft.pendingFlag = false)
    (band : inBand s.config s.shaft.angle = true) : s.comeToRest = s.rested := by
  unfold State.comeToRest
  rw [Shaft.comeToRest_inBand (.inl parking) unpended band]
  exact if_pos (by simp [unpended])

/-- The taking of a stationary entry, written out (R86, R96, R98, R136). -/
theorem State.takeStationary_eq (e : Entry) (rest : List Entry) (s : State) : s.takeStationary e rest =
    { s.commitCap.take e rest with
      shaft := { s.commitCap.shaft with
        active := some { kind := e.revKind, pen := .fill false, awaiting := true } }
      heads := (s.commitCap.take e rest).heads.map fun r => { r with latch := false }
      frame := s.frame.beginMove s.config .stationary e.disp } := by
  have taken := s.commitCap.take_eq e rest
  unfold State.takeStationary State.latchesOff
  dsimp only
  generalize s.commitCap.take e rest = u at taken ⊢
  rw [taken]
  rfl

/-- R145's stop is due. -/
theorem State.blockEndDue_iff : s.blockEndDue = true ↔
    s.config.breakPolicy = .runOn ∧ s.anyBroken = true ∧ s.run.blockEnd = false := by
  simp [State.blockEndDue, and_assoc]

theorem State.rested_blockEndDue : s.rested.blockEndDue = s.blockEndDue := by
  have broken : s.rested.anyBroken = s.anyBroken := by simp [State.anyBroken, State.rested]
  unfold State.blockEndDue
  rw [broken]
  rfl

theorem State.mayBeginAtRest_iff : s.mayBeginAtRest = true ↔
    s.run.state = .running ∧ s.carriage.state = .idle ∧ s.haltLine = false := by
  simp [State.mayBeginAtRest, and_assoc]

end Sys2Proof.Machine

namespace Sys2Proof.Proofs
open Sys2Proof.Machine

/-- Settles O36, a row of R95's table at a time. -/
theorem parkedHeadOfQueue : Obligations.ParkedHeadOfQueue := by
  intro s parking turns band none_ unpended unmoved run calm
  have rests : exec .shaftAtRest s = .next s.rested.settle := by
    rw [exec_shaftAtRest turns, State.comeToRest_rested parking unpended band]
  have readable : s.rested.headReadable = true := by
    refine State.headReadable_iff.2 ⟨?_, calm, rfl, ?_, none_, unmoved⟩
    · exact decide_eq_true_iff.2 run
    · change (true && inBand s.config s.shaft.angle && !s.shaft.pendingFlag) = true
      rw [band, unpended]
      rfl
  have kept := s.rested.settle_inert
  simp only [State.inert, Prod.mk.injEq] at kept
  obtain ⟨config, store, designs, -⟩ := kept
  refine ⟨_, rests, store, config, designs, ?_⟩
  intro held blockEnd
  have hold {x : State} {reason : StopReason} (eq : s.rested.whenStill = x.enterStopped reason)
      (ordinal : x.run.ordinal = s.run.ordinal) (frontier : x.run.frontier = s.run.frontier)
      (burst : x.burst = s.burst) (last : x.lastGranted = s.lastGranted) {resume : Option Position}
      (point : x.holdPoint = resume) : s.heldWith reason resume s.rested.settle := by
    rw [State.settle, eq, ← point]
    exact State.heldWith_enterStopped reason ordinal frontier burst last
  have opened {x : State} {k : Key} {reason : StopReason} (eq : s.rested.whenStill = x.enterStopped reason) :
      s.rested.settle.condition? k = x.condition? k := by
    rw [State.settle, eq, State.condition?_hold]
  refine ⟨fun empty pending => ?_, fun empty free => ?_, fun e rest queue => ⟨fun pause => ?_, fun reason fault => ?_,
    fun moves limit => ?_, fun plain within pending => ?_, fun plain within free => ?_, fun ends due => ?_,
    fun code colour free => ?_, fun ends free => ?_⟩⟩
  · exact hold (State.whenStill_empty_held readable empty pending) rfl rfl rfl rfl (State.holdPoint_of_empty empty)
  · rw [State.settle, State.whenStill_empty_waits readable empty free]
    simp only [State.arbitrate_run, State.arbitrate_queue]
    exact ⟨rfl, empty, State.granted_of rfl rfl⟩
  · have eq := State.whenStill_pause readable queue pause
    refine ⟨?_, hold eq rfl rfl rfl rfl rfl⟩
    rw [State.settle, eq, State.arbitrate_run]
    rfl
  · have eq := State.whenStill_fault readable queue fault
    refine ⟨hold eq rfl rfl rfl rfl (State.holdPoint_of_queue (rest := rest) queue), ?_⟩
    rw [opened eq]
    obtain ⟨c, found, state, detail, -, ordinal, position⟩ :=
      s.rested.condition?_openCause .recordFault none (.recordFault reason) (some e.pos)
    exact ⟨c, found, state, detail, ordinal, position⟩
  · have eq := State.whenStill_limit readable queue moves limit
    refine ⟨hold eq rfl rfl rfl rfl (State.holdPoint_of_queue (rest := rest) queue), ?_⟩
    rw [opened eq]
    obtain ⟨c, found, state, detail, -, ordinal, position⟩ := s.rested.condition?_openCause .frameLimit none
      (.limit e.planned (!s.config.inX e.planned.x) (!s.config.inY e.planned.y)) (some e.pos)
    refine ⟨c, found, state, ordinal, position, _, _, detail, ?_, ?_⟩
    · simp only [Configuration.inX, Bool.not_eq_true', decide_eq_false_iff_not]
      omega
    · simp only [Configuration.inY, Bool.not_eq_true', decide_eq_false_iff_not]
      omega
  · exact hold (State.whenStill_record_held readable queue plain within pending) rfl rfl rfl rfl
      (State.holdPoint_of_queue queue)
  · intro rested ready
    have ready_iff : s.rested.mayBeginAtRest = true ↔ ready := State.mayBeginAtRest_iff
    refine ⟨fun unready => ?_, fun ready turns => ?_, fun ready stationary => ?_⟩
    · have unready : s.rested.mayBeginAtRest = false := Bool.eq_false_iff.2 (mt ready_iff.1 unready)
      rw [State.settle, State.whenStill_record_waits readable queue plain within free unready]
      exact rfl
    · rw [State.settle, State.whenStill_record_begins readable queue plain within free (ready_iff.2 ready) turns]
      exact State.beginPoint_begun e rest s.rested
    · intro ordinal
      rw [State.settle,
        State.whenStill_record_stationary readable queue plain within free (ready_iff.2 ready) stationary]
      have eq := s.rested.fromRest.takeStationary_eq e rest
      have taken := s.rested.fromRest.commitCap.take_eq e rest
      have states := s.rested.fromRest.commitCap.take_headState e rest
      generalize s.rested.fromRest.commitCap.take e rest = u at eq taken states
      refine ⟨?_, State.granted_of (by rw [eq, taken]; rfl) (by rw [eq, taken]; rfl), ?_, ?_, fun h => ?_,
        fun q known steps => ?_⟩
      · rw [State.arbitrate_queue, eq, taken]
      · rw [State.arbitrate_run, eq, taken]
        rfl
      · rw [State.arbitrate_shaft, eq]
        rfl
      · rw [State.arbitrate_heads, eq]
        simp only [Table.get_map, true_and]
        refine (states h).trans ?_
        rw [show (s.rested.fromRest.commitCap.heads.get h).state = (s.heads.get h).state from by
          simp [State.fromRest, State.commitCap, State.rested]]
        rfl
      · rw [State.arbitrate_frame, eq]
        have begun := FrameUnit.beginMove_known (f := s.frame) known steps s.config .stationary
        exact ⟨_, congrArg FrameUnit.state begun, rfl, rfl, rfl, rfl, rfl⟩
  · have due : s.rested.blockEndDue = true := State.rested_blockEndDue.trans (State.blockEndDue_iff.2 due)
    have eq := State.whenStill_blockEnd readable queue ends due
    refine ⟨hold eq rfl rfl rfl rfl (State.holdPoint_of_queue (rest := rest) queue), ?_⟩
    rw [State.settle, eq, State.arbitrate_run]
    rfl
  · have free : s.rested.blockEndDue = false :=
      State.rested_blockEndDue.trans (Bool.eq_false_iff.2 (mt State.blockEndDue_iff.1 free))
    refine ⟨fun lost => ?_, fun p reason stands unmatched => ?_, fun p n stands needle apart => ?_,
      fun p g stands needle enabled ready => ?_⟩
    · have eq := State.whenStill_colour_lost readable queue colour free lost
      refine ⟨hold eq rfl rfl rfl rfl (State.holdPoint_of_queue (rest := rest) queue), ?_⟩
      rw [opened eq]
      have cause := s.rested.changing.condition?_carriageCause .lost none
      rwa [State.colourPosition_of_changing (s := s.rested.changing) rfl queue] at cause
    · have eq := State.whenStill_colour_unmatched readable queue colour free stands unmatched
      refine ⟨hold eq rfl rfl rfl rfl (State.holdPoint_of_queue (rest := rest) queue), ?_⟩
      rw [opened eq]
      obtain ⟨c, found, state, detail, -, ordinal, position⟩ := s.rested.changing.condition?_openCause
        .needleUnmatched none (.unmatched reason code) (some e.pos)
      exact ⟨c, found, state, detail, ordinal, position⟩
    · rw [State.settle, State.whenStill_colour_steps readable queue colour free stands needle apart]
      simp only [State.arbitrate_run, State.arbitrate_queue, State.arbitrate_carriage]
      exact ⟨rfl, rfl, State.granted_of rfl rfl, _, rfl, stepToward_toward p n⟩
    · obtain ⟨t, changed, done⟩ := State.whenStill_colour_stands readable queue colour free stands needle
      intro run stays
      have ready_at (h : Head) (on : s.enabled h = true) : (s.rested.changing.atNeedle p).readyNow h = true :=
        decide_eq_true (ready h on).1
      have state_at (h : Head) : ((s.rested.changing.atNeedle p).heads.get h).state = (s.heads.get h).state := by
        simp [State.rested, State.changing, State.atNeedle]
      have found : ∀ h, ¬(s.rested.changing.atNeedle p).lostAt h := fun h lost => by
        rw [State.lostAt, ready_at h lost.1] at lost
        cases lost.2.1
      have record (h : Head) (on : s.enabled h = true) :
          (s.rested.changing.atNeedle p).colourRecord h = { s.heads.get h with
            state := .sewing, balance := 0, grace := 2, latch := false } := by
        have head : (s.rested.changing.atNeedle p).heads.get h = { s.heads.get h with latch := false } := by
          simp [State.rested, State.changing, State.atNeedle]
        rw [State.colourRecord, if_pos (by exact on), State.colourRow, ready_at h on, head]
        rcases (ready h on).2 with sewing | ⟨m, waiting⟩
        · simp only [sewing]; rfl
        · simp only [waiting]; rfl
      have someone : ¬(s.rested.changing.atNeedle p).noneAfterColour := fun none_ => by
        have silent := none_ g
        rw [record g enabled] at silent
        cases silent
      have t_run : t.run = { run with state := .changing } := changed.left_ (.inl found) someone
      have t_queue : t.queue = rest := by rw [changed.frame]
      have t_config : t.config = s.config := by rw [changed.frame]; rfl
      have t_burst : t.burst = s.burst := by rw [changed.frame]; rfl
      have t_last : t.lastGranted = s.lastGranted := by rw [changed.frame]; rfl
      have t_feed : t.feed = s.feed := by rw [changed.frame]; rfl
      have point : t.holdPoint = resumeBehind rest s.feed.fetch := by rw [State.holdPoint_eq, t_queue, t_feed]
      have stay {reason : StopReason} (eq : s.rested.whenStill = t.enterStopped reason) : stays reason := by
        have done := (hold eq (by rw [t_run]) (by rw [t_run]) t_burst t_last rfl)
        obtain ⟨-, -, -, -, -, queue, feed, -, -, link, granted⟩ := done
        refine ⟨?_, queue, feed, link, granted⟩
        rw [State.settle, eq, State.arbitrate_run, State.enterStopped_eq, point, t_run]
        rfl
      have pending : t.run.pendingStop = s.run.pendingStop := by rw [t_run]
      have shape (ends : s.run.pendingStop = true ∨ s.config.autoResume = false ∨ rest = []) :
          s.rested.whenStill = t.afterChange := done (by rwa [pending, t_config])
      refine ⟨fun held => stay ?_, fun free manual => stay ?_, fun free auto last => ?_, fun ends => ?_⟩
      · rw [shape (.inl held), State.afterChange, if_pos (pending.trans held),
          show t.run.reason = s.run.reason by rw [t_run]]
      · rw [shape (.inr (.inl manual)), State.afterChange, if_neg (by simp [pending, free]),
          if_neg (by simp [t_config, manual])]
      · rw [State.settle, shape (.inr (.inr last)), State.afterChange, if_neg (by simp [pending, free]),
          if_pos (t_config ▸ auto)]
        simp only [State.arbitrate_run, State.arbitrate_queue]
        refine ⟨by rw [t_run], t_queue.trans last, State.granted_of t_burst t_last⟩
      · have after {β : Type} (f : State → β) (stops : ∀ x reason, f (State.enterStopped reason x) = f x)
            (runs : ∀ x : State, f { x with run := { x.run with state := .running } } = f x)
            (grants : ∀ x : State, f x.arbitrate = f x) : f s.rested.settle = f t := by
          rw [State.settle, grants, shape ends, State.afterChange_keeps f stops runs]
        refine ⟨?_, ?_, ?_, fun h => ?_, fun sound => ?_⟩
        · rw [after State.carriage (fun _ _ => rfl) (fun _ => rfl) State.arbitrate_carriage, changed.frame]; rfl
        · rw [after State.frame (fun _ _ => rfl) (fun _ => rfl) State.arbitrate_frame, changed.frame]; rfl
        · rw [after State.needles (fun _ _ => rfl) (fun _ => rfl) State.arbitrate_needles, changed.frame]; rfl
        · rw [after State.heads (fun _ _ => rfl) (fun _ => rfl) State.arbitrate_heads, changed.record]
          by_cases on : s.enabled h = true
          · rw [if_pos on, record h on]
          · rw [if_neg on, State.colourRecord, if_neg (by exact on)]
            simp [State.rested, State.changing, State.atNeedle]
        · rw [State.causeOpen, after State.conditions (fun _ _ => rfl) (fun _ => rfl) State.arbitrate_conditions]
          exact (changed.closed sound).1
  · have free : s.rested.blockEndDue = false :=
      State.rested_blockEndDue.trans (Bool.eq_false_iff.2 (mt State.blockEndDue_iff.1 free))
    rw [State.settle, State.whenStill_endMain readable queue ends free]
    simp only [State.arbitrate_run, State.arbitrate_queue, State.arbitrate_link, State.endRun_run]
    refine ⟨rfl, rfl, rfl, rfl, rfl, rfl, ?_, ?_, State.granted_of ?_ ?_⟩
    all_goals
      rw [State.endRun_eq]
      rfl

end Sys2Proof.Proofs
end

section
/-! PROOFS. HOME, the switches, FRAME_MOVE and MOVE_COMPLETE (R76, R79, R80, R81, R84, R89, R96, R106). -/

namespace Sys2Proof.Machine

variable {s t : State} {e : Entry} {rest : List Entry}

/-! ## The speed plan looks at the shaft, the needle and the configuration -/

section Plan

variable (config : t.config = s.config) (needle : t.run.needle = s.run.needle) (needles : t.needles = s.needles)
include config needle needles

theorem State.entryLimit_congr {e e' : Entry} (nMax : e.nMax = e'.nMax) (kind : e.kind = .trim ↔ e'.kind = .trim)
    (cap : Nat) : t.entryLimit cap e = s.entryLimit cap e' := by
  have ceiling : t.ceiling = s.ceiling := by unfold State.ceiling; rw [needle, needles, config]
  have limit : t.kindLimit e = s.kindLimit e' := by unfold State.kindLimit; simp only [kind, config]
  unfold State.entryLimit
  rw [nMax, ceiling, limit]

theorem State.boundBeyond_congr (cap : Nat) (es : List Entry) (j : Nat) :
    t.boundBeyond cap j es = s.boundBeyond cap j es := by
  induction es generalizing j with
  | nil => unfold State.boundBeyond; rw [config]
  | cons e es ih =>
    unfold State.boundBeyond State.boundAt
    rw [ih, State.entryLimit_congr config needle needles rfl Iff.rfl, config]

/-- The speed of a revolution depends on the frame and the heads in nothing (R98 to R101). -/
theorem State.planSpeed_congr (shaft : t.shaft = s.shaft) {e e' : Entry} (nMax : e.nMax = e'.nMax)
    (kind : e.kind = .trim ↔ e'.kind = .trim) (rest : List Entry) : t.planSpeed e rest = s.planSpeed e' rest := by
  have floor : t.floorSpeed = s.floorSpeed := by unfold State.floorSpeed; rw [config, shaft]
  have cap : t.effectiveCap = s.effectiveCap := by unfold State.effectiveCap; rw [floor, config, shaft]
  unfold State.planSpeed State.planBound
  rw [floor, cap, shaft, config, State.entryLimit_congr config needle needles nMax kind,
    State.boundBeyond_congr config needle needles]

end Plan

/-! ## A JUMP that a quick stop cuts short -/

theorem cutActive_of_stitch {o : Option Active} (stitch : ∀ a, o = some a → a.kind ≠ .jump) :
    (o.filter fun a => decide (a.kind ≠ RevKind.jump)) = o := by
  cases o with
  | none => rfl
  | some a => rw [Option.filter_some, if_pos (by simpa using stitch a rfl)]

theorem cutActive_of_jump {o : Option Active} (jump : ∃ a, o = some a ∧ a.kind = .jump) :
    (o.filter fun a => decide (a.kind ≠ RevKind.jump)) = none := by
  obtain ⟨a, rfl, jump⟩ := jump
  rw [Option.filter_some, if_neg (by simp [jump])]

theorem cutActive_eq (o : Option Active) : (o.filter fun a => decide (a.kind ≠ RevKind.jump)) =
    if o.any fun a => a.kind.penetrates then o else none := by
  cases o with
  | none => rfl
  | some a => cases kind : a.kind <;> simp [kind, RevKind.penetrates, Option.filter_some]

/-! ## A move that completes -/

/-- Nothing follows at the shaft while a move is in flight (R95, R106). -/
theorem State.whenStill_moving (moving : s.frame.state.isMoving = true) : s.whenStill = s := by
  have busy : s.frameStill = false := by simp [State.frameStill, moving]
  have cut : s.completeCutJump = s := by
    unfold State.completeCutJump
    split
    · rfl
    · exact if_neg (by simp [busy])
  have unread : s.headReadable = false := by simp [State.headReadable, busy]
  unfold State.whenStill
  dsimp only
  rw [cut]
  split
  · exact if_neg (by simp [busy])
  · exact State.dealHeads_of_unreadable unread _

/-- The frame where a move with no follow-on has brought it (R76, R89). -/
def FrameUnit.arrived (m : Move) (f : FrameUnit) : FrameUnit :=
  { f with
    state := .known ⟨m.start.x + m.disp.x, m.start.y + m.disp.y⟩
    residual := if m.kind = .residual then none else f.residual }

theorem FrameUnit.complete_arrived {f : FrameUnit} {m : Move} (moving : f.state = .moving m) (last : f.followOn = none)
    (cfg : Configuration) : f.complete cfg = f.arrived m := by
  simp only [FrameUnit.complete, FrameUnit.arrived, moving, last]
  rfl

/-- The follow-on begins where the move before it ends (R76, R84). -/
theorem FrameUnit.complete_followOn {f : FrameUnit} {m : Move} {g : FollowOn} (moving : f.state = .moving m)
    (next : f.followOn = some g) (steps : g.disp ≠ ⟨0, 0⟩) (cfg : Configuration) : ∃ n : Move,
      (f.complete cfg).state = .moving n ∧ (f.complete cfg).followOn = none ∧ n.kind = .sewing ∧
        n.start = m.target ∧ n.disp = g.disp ∧ n.issued = 0 := by
  simp only [FrameUnit.complete, moving, next]
  rw [FrameUnit.beginMove_known rfl steps]
  exact ⟨_, rfl, rfl, rfl, rfl, rfl, rfl⟩

theorem exec_moveComplete {m : Move} (moving : s.frame.state = .moving m) :
    exec .moveComplete s = .next (State.moveReported m.kind { s with frame := s.frame.complete s.config }).arbitrate := by
  change execMoveComplete s = _
  simp only [execMoveComplete, moving]

theorem exec_moveComplete_arrived {m : Move} (moving : s.frame.state = .moving m) (last : s.frame.followOn = none) :
    exec .moveComplete s = .next (State.moveReported m.kind { s with frame := s.frame.arrived m }).arbitrate := by
  rw [exec_moveComplete moving, FrameUnit.complete_arrived moving last]

/-- The penetration revolution of a stationary STITCH, written out (R96, R98, R101, R135). -/
theorem State.penetrationRevolution_eq (k : RevKind) (s : State) : s.penetrationRevolution k =
    { s with
      shaft := { s.shaft with
        state := .turning, enable := true, backoff := false, capEff := s.fromRest.effectiveCap
        command := s.fromRest.planSpeed (s.fromRest.annotateStill .pause (Position.main 0 0)) s.queue
        vPrev := s.fromRest.planSpeed (s.fromRest.annotateStill .pause (Position.main 0 0)) s.queue
        active := some { kind := k, pen := s.penetrating k, awaiting := false } }
      heads := s.heads.map fun r => { r with latch := k.penetrates && decide (r.state = .sewing) } } := rfl

end Sys2Proof.Machine

namespace Sys2Proof.Proofs
open Sys2Proof.Machine

/-- Settles O31. -/
theorem frameRequests : Obligations.FrameRequests := by
  intro s
  refine ⟨fun served idle line homing moving tdc => ?_, fun x y homing => ?_, fun other axis => ?_,
    fun p x0 x1 y0 y1 => ?_, fun m moving last host => ?_, fun m g moving next sews steps => ?_,
    fun m moving last kind => ?_, fun m a moving last kind active still rests sews => ?_⟩
  · intro allowance axis
    refine (exec_of_served served rfl).trans ?_
    rw [performHome_eq, State.checked_holds s.home_same
      (by simpa using ⟨idle, line, ⟨homing, moving⟩, tdc⟩)]
    rfl
  · intro home waits
    have state {axis : Axis} : exec (.homeSwitchActive axis) s = .next { s with
        frame := s.frame.switchActive s.config axis } := rfl
    have limit {axis : Axis} : exec (.homeTravelLimit axis) s = .next { s with
        frame := s.frame.travelLimit axis } := rfl
    refine ⟨?_, ?_, fun fresh => ?_, fun fresh => ?_⟩
    · rw [state]
      simp only [FrameUnit.switchActive, homing, FrameUnit.homeProgress, HomeAxis.find, Bool.true_and]
      rfl
    · rw [state]
      simp only [FrameUnit.switchActive, homing, FrameUnit.homeProgress, HomeAxis.find, Bool.and_true]
      rfl
    · rw [limit]
      simp only [FrameUnit.travelLimit, homing, fresh]
      rfl
    · rw [limit]
      simp only [FrameUnit.travelLimit, homing, fresh]
      rfl
  · have same : s.frame.switchActive s.config axis = s.frame := by
      unfold FrameUnit.switchActive
      cases state : s.frame.state <;> simp [state, FrameState.isHoming] at other ⊢
    change Host.Outcome.next { s with frame := s.frame.switchActive s.config axis } = _
    rw [same]
  · intro d served idle line known tdc xLow xHigh yLow yHigh
    have done : exec (.frameMove [x0, x1, y0, y1]) s = .next ((s.beginMove .host d).reply 0x31 .ok .empty) := by
      refine (exec_of_served served rfl).trans ?_
      rw [performFrameMove_eq, State.checked_holds (s.frameMove_same d)]
      have fits : ∃ q, s.frame.state = .known q ∧ s.config.inField (q.add d) = true :=
        ⟨p, known, Configuration.inField_iff.2 ⟨xLow, xHigh, yLow, yHigh⟩⟩
      simpa [idle, line, known, tdc, FrameState.isHoming, FrameState.isMoving] using fits
    refine ⟨_, done, rfl, fun zero => ?_, fun steps => ⟨_, ?_, rfl⟩⟩
    · change s.frame.beginMove s.config .host d = s.frame
      rw [zero, FrameUnit.beginMove_zero]
    · exact FrameUnit.beginMove_known known steps s.config .host
  · refine ⟨_, exec_moveComplete_arrived moving last, ?_⟩
    rw [host, FrameUnit.arrived, if_neg (by simp [host])]
    rfl
  · obtain ⟨n, state, none_, kind, start, disp, issued⟩ := FrameUnit.complete_followOn moving next steps s.config
    have done := exec_moveComplete moving
    generalize s.frame.complete s.config = f at state none_ done
    have quiet : State.moveReported m.kind { s with frame := f } = { s with frame := f } := by
      rw [sews]
      exact State.whenStill_moving (s := { s with frame := f }) (by simp [state, FrameState.isMoving])
    rw [quiet] at done
    have frame : (State.arbitrate { s with frame := f }).frame = f := State.arbitrate_frame _
    exact ⟨_, n, done, by rw [frame]; rfl, (congrArg FrameUnit.state frame).trans state,
      (congrArg FrameUnit.followOn frame).trans none_, kind, start, disp, issued⟩
  · intro home arrived sews held plain
    have done : exec .moveComplete s = .next arrived.whenStill.arbitrate := by
      rw [exec_moveComplete_arrived moving last]
      rcases kind with residual | sewing
      · rw [residual]; rfl
      · rw [sewing]; rfl
    have sewing_of (h : sews) : arrived.sewing = true := decide_eq_true h
    have hold {sh : Shaft} (eq : arrived.whenStill = ({ arrived with shaft := sh } : State).enterStopped s.run.reason) :
        held sh arrived.whenStill.arbitrate := by
      rw [eq, State.enterStopped_eq]
      simp only [held, State.arbitrate_frame, State.arbitrate_shaft, State.arbitrate_heads, State.arbitrate_queue,
        State.arbitrate_feed, State.arbitrate_link, State.arbitrate_run]
      exact ⟨rfl, trivial, rfl, trivial, trivial, rfl, State.granted_of rfl rfl, rfl⟩
    refine ⟨_, done, fun quiet => ?_, fun sewing still rests quick => ⟨fun stitch => ?_, fun jump => ?_⟩,
      fun sewing still tdc none_ calm => ?_⟩
    · rw [State.whenStill_of_quiet (s := arrived) (quiet.imp_right fun ⟨none_, idle⟩ =>
        ⟨decide_eq_false idle, none_⟩)]
      exact rfl
    · refine hold ((State.whenStill_quick (s := arrived) quick (sewing_of sewing) still rests rfl).trans ?_)
      unfold State.cutDone
      rw [show (arrived.shaft.active.filter fun a => decide (a.kind ≠ RevKind.jump)) = s.shaft.active from
        cutActive_of_stitch stitch]
    · refine hold ((State.whenStill_quick (s := arrived) quick (sewing_of sewing) still rests rfl).trans ?_)
      unfold State.cutDone
      rw [show (arrived.shaft.active.filter fun a => decide (a.kind ≠ RevKind.jump)) = none from
        cutActive_of_jump jump]
    · have readable : arrived.headReadable = true :=
        State.headReadable_iff.2 ⟨sewing_of sewing, calm, still, tdc, none_, rfl⟩
      refine ⟨fun empty free => ?_, fun empty pending => ?_, fun e rest queue record => ?_⟩
      · rw [State.whenStill_empty_waits readable empty free]
        exact rfl
      · exact hold (State.whenStill_empty_held readable empty pending)
      · obtain ⟨plain, within⟩ := record
        have ready_iff : arrived.mayBeginAtRest = true ↔
            s.run.state = .running ∧ s.carriage.state = .idle ∧ s.haltLine = false := State.mayBeginAtRest_iff
        refine ⟨fun pending => ?_, fun free unready => ?_, fun free ready turns => ?_⟩
        · exact hold (State.whenStill_record_held readable queue plain within pending)
        · rw [State.whenStill_record_waits readable queue plain within free (Bool.eq_false_iff.2 (mt ready_iff.1 unready))]
          exact rfl
        · rw [State.whenStill_record_begins readable queue plain within free (ready_iff.2 ready) turns]
          exact State.beginPoint_begun e rest arrived.fromRest
  · intro home
    have home_eq : s.frame.arrived m = home := by rw [FrameUnit.arrived, if_neg (by simp [kind])]
    have done : exec .moveComplete s =
        .next (State.whenStill (State.stationaryComplete { s with frame := home })).arbitrate := by
      rw [exec_moveComplete_arrived moving last, home_eq, kind]
      rfl
    have taken : State.stationaryComplete { s with frame := home } =
        if a.kind = .jump then { s with frame := home, shaft := { s.shaft with active := none } }
        else if s.shaft.stopReq = .quick then
          { s with frame := home, shaft := { s.shaft with
            active := some { a with awaiting := false }, pendingFlag := true } }
        else State.penetrationRevolution a.kind { s with frame := home } := by
      unfold State.stationaryComplete
      dsimp only
      rw [active]
    refine ⟨fun jump empty free calm => ?_, fun dx dy stitch calm => ?_, fun dx dy stitch quick => ?_⟩
    · rw [if_pos jump] at taken
      refine ⟨_, done, ?_⟩
      rw [taken, State.whenStill_of_calm (by rfl) (by exact calm), State.dealHeads_of_empty (by exact empty) (by exact free)]
      exact rfl
    · rw [if_neg (by simp [stitch]), if_neg calm, State.penetrationRevolution_eq] at taken
      intro s1
      have plan (e : Entry) (kind : e.kind = .stitch dx dy) (nMax : e.nMax = s.config.speedMax) :
          (State.fromRest { s with frame := home }).planSpeed ((State.fromRest { s with frame := home }).annotateStill .pause
            (Position.main 0 0)) s.queue = s1.planSpeed e s.queue :=
        State.planSpeed_congr (s := s1) (t := State.fromRest { s with frame := home }) rfl rfl rfl rfl nMax.symm
          (by simp [kind, State.annotateStill]) s.queue
      rw [taken, State.whenStill_of_quiet (.inl (by simp))] at done
      refine ⟨_, done, ?_, ?_, ?_, State.granted_of rfl rfl, fun e kind nMax => ?_,
        ⟨{ kind := a.kind, pen := s.penetrating a.kind, awaiting := false }, ?_, rfl, rfl,
          fun h => ?_⟩,
        fun h => ?_⟩
      · rw [State.arbitrate_frame]
      · rw [State.arbitrate_run]
      · rw [State.arbitrate_queue]
      · rw [State.arbitrate_shaft, ← plan e kind nMax]
        rfl
      · rw [State.arbitrate_shaft]; rfl
      · simp [State.penetrating, stitch, RevKind.penetrates]
      · rw [State.arbitrate_heads]
        simp [stitch, RevKind.penetrates]
    · rw [if_neg (by simp [stitch]), if_pos quick] at taken
      rw [taken, State.whenStill_quick (by exact quick) (by exact sews) (by exact still) (by exact rests) (by rfl),
        State.enterStopped_eq] at done
      refine ⟨_, done, ?_, ?_, State.granted_of rfl rfl, ?_, ?_, ?_, ?_, ?_⟩
      · rw [State.arbitrate_frame]; rfl
      · rw [State.arbitrate_run]
      · rw [State.arbitrate_run]
      · rw [State.arbitrate_shaft]; exact still
      · rw [State.arbitrate_shaft]; rfl
      · rw [State.arbitrate_shaft]
        exact cutActive_of_stitch (o := some { a with awaiting := false }) (by simp [stitch])
      · rw [State.arbitrate_heads]; rfl

end Sys2Proof.Proofs
end

section
/-! PROOFS. STOP, QUICK_STOP, the stop line and ABORT (R104 to R107, R152, R160, R161, R164, R166). -/

namespace Sys2Proof.Machine

variable {s t : State} {e : Entry} {rest : List Entry}

/-! ## A shaft that moves, and a run that does not sew -/

/-- Nothing follows while the shaft or the frame moves (R95, R106). -/
theorem State.whenStill_busy (busy : ¬(s.shaft.state = .still ∧ s.shaft.atRest = true) ∨ s.frame.state.isMoving = true) :
    s.whenStill = s := by
  rcases busy with turns | moving
  · have still : s.shaftStill = false := by simpa [State.shaftStill] using turns
    have cut : s.completeCutJump = s := by
      unfold State.completeCutJump
      split
      · rfl
      · exact if_neg (by simp [still])
    have unread : s.headReadable = false := Bool.eq_false_iff.2 fun readable => by
      obtain ⟨-, -, state, tdc, -⟩ := State.headReadable_iff.1 readable
      simp only [State.atTdc, Bool.and_eq_true] at tdc
      exact turns ⟨state, tdc.1.1⟩
    unfold State.whenStill
    dsimp only
    rw [cut]
    split
    · exact if_neg (by simp [still])
    · exact State.dealHeads_of_unreadable unread _
  · exact State.whenStill_moving moving

/-- A JUMP cut short is complete (R107). -/
def State.cutReady (s : State) : Prop :=
  (s.shaft.state = .still ∧ s.shaft.atRest = true) ∧ ¬s.frame.state.isMoving = true ∧
    ∃ a, s.shaft.active = some a ∧ a.kind = .jump

theorem State.completeCutJump_ready (ready : s.cutReady) :
    s.completeCutJump = { s with shaft := { s.shaft with active := none } } := by
  obtain ⟨⟨still, rests⟩, unmoved, a, active, jump⟩ := ready
  simp only [State.completeCutJump, active, State.shaftStill, State.frameStill]
  exact if_pos ⟨jump, by simp [still, rests], by simpa using unmoved⟩

theorem State.completeCutJump_other (other : ¬s.cutReady) : s.completeCutJump = s := by
  unfold State.completeCutJump
  split
  · rfl
  · rename_i a active
    refine if_neg fun ⟨jump, still, unmoved⟩ => other ⟨?_, ?_, a, active, jump⟩
    · simpa [State.shaftStill] using still
    · simpa [State.frameStill] using unmoved

/-- Where no run sews, a JUMP cut short completes and nothing else follows. -/
theorem State.whenStill_unsewn (idle : s.sewing = false) : s.whenStill = s.completeCutJump := by
  have idle' : s.completeCutJump.sewing = false := by
    by_cases ready : s.cutReady
    · rw [State.completeCutJump_ready ready]; exact idle
    · rw [State.completeCutJump_other ready, idle]
  unfold State.whenStill
  dsimp only
  split
  · exact if_neg (by simp [idle'])
  · exact State.dealHeads_of_unreadable (State.unreadable_of_sewing idle') _

/-! ## Asking for a stop -/

/-- A stop of a sewing run is asked for (R104, R106). -/
def State.stopping (reason : StopReason) (request : StopRequest) (s : State) : State := { s with
  run := { s.run with state := .stopping, pendingStop := true, reason := reason }
  shaft := { s.shaft with stopReq := request } }

theorem State.stopRun_sewing (sews : s.run.state = .running ∨ s.run.state = .stopping) (reason : StopReason) :
    s.stopRun reason = if s.shaft.stopReq = .none then s.stopping reason .controlled else s := by
  rcases sews with state | state
  · simp only [State.stopRun, State.requestStop, state]
    rfl
  · simp only [State.stopRun, State.requestStop, state]
    split
    · unfold State.stopping; rw [← state]
    · rfl

theorem State.stopRun_held (held : s.run.state = .idle ∨ s.run.state = .stopped ∨ s.run.state = .halted)
    (reason : StopReason) : s.stopRun reason = s := by
  rcases held with state | state | state <;> simp only [State.stopRun, state]

theorem State.quickStopRun_sewing (sews : s.run.state = .running ∨ s.run.state = .stopping) :
    s.quickStopRun = if s.shaft.stopReq = .quick then s else (s.stopping .quickStop .quick).brake := by
  rcases sews with state | state <;> simp only [State.quickStopRun, state] <;> rfl

theorem State.quickStopRun_held (held : s.run.state = .idle ∨ s.run.state = .stopped ∨ s.run.state = .halted) :
    s.quickStopRun = s := by
  rcases held with state | state | state <;> simp only [State.quickStopRun, state]

theorem performStop_eq : performStop [] s = if s.runExists then ((s.stopRun .hostStop).reply 0x22 .ok .empty).settle
    else s.reply 0x22 .wrongState .empty := by
  unfold performStop State.noArgument
  simp only [State.checked_single]

theorem performQuickStop_eq : performQuickStop [] s = if s.runExists then (s.quickStopRun.reply 0x23 .ok .empty).settle
    else s.reply 0x23 .wrongState .empty := by
  unfold performQuickStop State.noArgument
  simp only [State.checked_single]

theorem performAbort_eq : performAbort [] s = if s.run.state.held then
    (s.endRun .aborted s.run.reason).reply 0x24 .ok .empty else s.reply 0x24 .wrongState .empty := by
  unfold performAbort State.noArgument
  simp only [State.checked_single]

theorem exec_stopLineActive (off : s.stopLine = false) :
    exec .stopLineActive s = .next (State.stopRun .stopLine { s with stopLine := true }).settle :=
  if_neg (by simp [off])

/-- The brake of a shaft that neither turns nor parks (R106). -/
theorem State.brake_other (other : ¬(s.shaft.state = .turning ∨ s.shaft.state = .parking)) : s.brake = s := if_neg other

/-- The brake of a shaft that turns or parks and has left rest (R106). -/
theorem State.brake_turning (turns : s.shaft.state = .turning ∨ s.shaft.state = .parking)
    (moves : s.shaft.atRest = false) : s.brake = { s with shaft := { s.shaft with state := .braking, command := 0 } } := by
  unfold State.brake
  rw [if_pos turns]
  exact if_neg (by simp [moves])

/-- The shaft that braked, at rest (R92, R106, R107). -/
def Shaft.braked (cfg : Configuration) (sh : Shaft) : Shaft := { sh with
  state := .still, command := 0, atRest := true, vPrev := cfg.speedMin, backoff := false
  pendingFlag := sh.active.any fun a => a.kind.penetrates }

/-- The brake of a shaft that turns or parks and has not left rest yet: it is STILL at once (R106, log 16). -/
theorem State.brake_resting (turns : s.shaft.state = .turning ∨ s.shaft.state = .parking)
    (rests : s.shaft.atRest = true) : s.brake = { s with shaft := s.shaft.braked s.config, heads := s.brake.heads } ∧
      ∀ h, s.brake.heads.get h = { s.heads.get h with
        latch := (s.heads.get h).latch && s.shaft.active.any fun a => a.kind.penetrates } := by
  have brakes : s.brake = State.comeToRest { s with shaft := { s.shaft with state := .braking, command := 0 } } := by
    unfold State.brake
    rw [if_pos turns]
    exact if_pos rests
  have eq := State.comeToRest_eq { s with shaft := { s.shaft with state := .braking, command := 0 } }
  have heads := State.comeToRest_head { s with shaft := { s.shaft with state := .braking, command := 0 } }
  rw [Shaft.comeToRest_braking rfl] at eq heads
  rw [brakes]
  exact ⟨eq, heads⟩

/-! ## The end of a run -/

/-- The THREAD_LOOSE causes that clear at the end of a run (R152). -/
def State.looseCleared (s : State) : State := allHeads.foldl (fun s h => s.clearCause (.threadLoose h)) s

theorem State.endHeads_entries {k : Key} (apart : ∀ g, k ≠ .threadBreak g) (s : State) :
    s.endHeads.entries k = s.looseCleared.entries k := by
  change (State.testThreadBreaks { s.looseCleared with heads := s.looseCleared.heads.map HeadRecord.endRun }).entries k = _
  generalize s.looseCleared = x
  exact State.entries_testThreadBreaks_ne _ apart

theorem State.endHeads_entries_ne {k : Key} (apart : ∀ g, k ≠ .threadBreak g ∧ k ≠ .threadLoose g) (s : State) :
    s.endHeads.entries k = s.entries k :=
  (State.endHeads_entries (fun g => (apart g).1) s).trans
    (foldl_keeps (fun t : State => t.entries k) _ (fun t g => State.entries_clearCause_ne (apart g).2 t) allHeads s)

theorem State.endHeads_entries_loose (s : State) (h : Head) :
    s.endHeads.entries (.threadLoose h) = clearEntries (.threadLoose h) (s.entries (.threadLoose h)) := by
  refine (State.endHeads_entries (by simp) s).trans ?_
  refine (foldl_heads (fun g (t : State) => t.entries (.threadLoose g)) (fun _ => ()) (fun _ _ => rfl)
    (fun t h g apart => State.entries_clearCause_ne (by simp [apart]) t) (fun t u h _ same => ?_) s h).trans ?_
  · change t.entries _ = u.entries _ at same
    rw [State.entries_clearCause, State.entries_clearCause, same]
  · exact State.entries_clearCause _ s

theorem State.endRun_entries (result : RunResult) (reason : StopReason) (s : State) (k : Key) :
    (s.endRun result reason).entries k = (s.runEndedCleared result reason).endHeads.entries k := by
  rw [State.endRun_def]
  generalize (s.runEndedCleared result reason).endHeads = x
  unfold State.entries
  rw [State.bandCheck_conditions, State.latchesOffAtRest_conditions]

/-- The causes that the end of a run clears (R152). -/
theorem State.endRun_closed (result : RunResult) (reason : StopReason) (sound : s.conditionsSound) {k : Key}
    (ends : k = .frameLimit ∨ k = .recordFault ∨ k = .needleUnmatched ∨ ∃ h, k = .threadLoose h) :
    (s.endRun result reason).causeOpen k = false := by
  have same (k : Key) : (s.runEnded result reason).entries k = s.entries k := rfl
  have others {k : Key} (a : k ≠ .frameLimit) (b : k ≠ .recordFault) (c : k ≠ .needleUnmatched) :
      (s.runEndedCleared result reason).entries k = s.entries k := by
    unfold State.runEndedCleared
    rw [State.entries_clearCause_ne c, State.entries_clearCause_ne b, State.entries_clearCause_ne a, same]
  suffices (s.endRun result reason).entries k = clearEntries k (s.entries k) by
    rw [State.causeOpen_eq_any, this]
    exact clearEntries_closed sound k
  rw [State.endRun_entries]
  rcases ends with rfl | rfl | rfl | ⟨h, rfl⟩
  · rw [State.endHeads_entries_ne (by simp), State.runEndedCleared, State.entries_clearCause_ne (by simp),
      State.entries_clearCause_ne (by simp), State.entries_clearCause, same]
  · rw [State.endHeads_entries_ne (by simp), State.runEndedCleared, State.entries_clearCause_ne (by simp),
      State.entries_clearCause, State.entries_clearCause_ne (by simp), same]
  · rw [State.endHeads_entries_ne (by simp), State.runEndedCleared, State.entries_clearCause,
      State.entries_clearCause_ne (by simp), State.entries_clearCause_ne (by simp), same]
  · rw [State.endHeads_entries_loose, others (by simp) (by simp) (by simp)]

end Sys2Proof.Machine

namespace Sys2Proof.Proofs
open Sys2Proof.Machine

/-- Settles O47. -/
theorem stopRequests : Obligations.StopRequests := by
  intro s stopping linked held sews still stopped moving cutJump ripe controlled unchanged
  have stopped_of (run : RunState) (pending : Bool) (reason : StopReason) (sh : Shaft) (request : StopRequest)
      (heads : Table 12 HeadRecord) (l : Link) (b : Bool) : stopped reason sh (State.arbitrate (State.enterStopped reason
        { s with run := { s.run with state := run, pendingStop := pending, reason := reason }
                 shaft := { sh with stopReq := request }, heads := heads, link := l, stopLine := b })) := by
    rw [State.enterStopped_eq]
    simp only [stopped, State.arbitrate_frame, State.arbitrate_shaft, State.arbitrate_queue, State.arbitrate_carriage,
        State.arbitrate_feed, State.arbitrate_link, State.arbitrate_run, State.arbitrate_needles,
        State.arbitrate_conditions, State.arbitrate_config, State.arbitrate_store, State.arbitrate_designs]
    exact ⟨rfl, trivial, trivial, trivial, trivial, trivial, trivial, trivial, trivial, trivial, trivial, trivial,
      State.granted_of rfl rfl⟩
  have sewing_of (h : sews) (sh : Shaft) (l : Link) (b : Bool) :
      State.sewing { s with shaft := sh, link := l, stopLine := b } = true := decide_eq_true h
  have controlled_of {i : Instr} {reason : StopReason} {after : State → State} {l : Link} {b : Bool} (h : sews)
      (same : ∀ x : State, x.link = s.link → x.stopLine = s.stopLine → after x = { x with link := l, stopLine := b })
      (runs : exec i s = .next (State.settle { s.stopRun reason with link := l, stopLine := b })) :
      controlled i reason after := by
    rw [State.stopRun_sewing h] at runs
    refine ⟨fun free => ⟨fun busy => ?_, fun ready unmoved => ?_⟩, fun _ asked busy => ?_⟩
    · rw [if_pos free, State.settle, State.whenStill_busy (by exact busy)] at runs
      refine ⟨_, runs, ?_⟩
      rw [same (stopping reason .controlled) rfl rfl]
      rfl
    · rw [if_pos free] at runs
      obtain ⟨⟨state, rests⟩, tdc, none_, waits⟩ := ready
      have readable : State.headReadable { s.stopping reason .controlled with link := l, stopLine := b } = true :=
        State.headReadable_iff.2 ⟨rfl, nofun, state, tdc, none_, unmoved⟩
      have taken : State.whenStill { s.stopping reason .controlled with link := l, stopLine := b } =
          State.enterStopped reason { s.stopping reason .controlled with link := l, stopLine := b } := by
        rcases waits with empty | ⟨e, rest, queue, plain, within⟩
        · exact State.whenStill_empty_held readable empty rfl
        · exact State.whenStill_record_held readable queue plain within rfl
      rw [State.settle, taken] at runs
      refine ⟨_, runs, stopped_of .stopping true reason s.shaft .controlled s.heads l b, ?_⟩
      rw [State.arbitrate_heads]
      rfl
    · rw [if_neg asked, State.settle, State.whenStill_busy (by exact busy)] at runs
      refine ⟨_, runs, ?_⟩
      rw [same s rfl rfl]
      rfl
  have unchanged_of {i : Instr} {after : State → State} {l : Link} {b : Bool} (idle : ¬sews)
      (same : ∀ x : State, x.link = s.link → x.stopLine = s.stopLine → after x = { x with link := l, stopLine := b })
      (runs : exec i s = .next (State.settle { s with link := l, stopLine := b })) : unchanged i after := by
    rw [State.settle, State.whenStill_unsewn (by exact decide_eq_false idle)] at runs
    refine ⟨fun whole => ⟨_, runs, ?_⟩, fun cut => ⟨_, runs, ?_⟩⟩
    · rw [same s rfl rfl, State.completeCutJump_other (by exact whole)]
      rfl
    · rw [same { s with shaft := { s.shaft with active := none } } rfl rfl, State.completeCutJump_ready (by exact cut)]
      rfl
  have linked_same (code : Byte) (x : State) (_ : x.link = s.link) (line : x.stopLine = s.stopLine) :
      linked code x = { x with link := s.link.place ⟨code, .ok, .empty⟩, stopLine := s.stopLine } := by rw [← line]
  have line_same (x : State) (link : x.link = s.link) (_ : x.stopLine = s.stopLine) :
      ({ x with stopLine := true } : State) = { x with link := s.link, stopLine := true } := by rw [← link]
  refine ⟨fun served => ?_, fun off h => controlled_of h line_same ?_, fun off idle => unchanged_of ?_ line_same ?_,
    fun on => if_pos on, rfl⟩
  · have exists_ : s.run.state ≠ .idle → s.runExists = true := fun other => decide_eq_true other
    have stop {x : State} (other : s.run.state ≠ .idle) (eq : s.stopRun .hostStop = x) (link : x.link = s.link)
        (line : x.stopLine = s.stopLine) : exec (.stop []) s =
          .next (State.settle { x with link := s.link.place ⟨0x22, .ok, .empty⟩, stopLine := s.stopLine }) := by
      refine (exec_of_served served rfl).trans ?_
      rw [performStop_eq, if_pos (exists_ other), eq, ← link, ← line]
      rfl
    have quick {x : State} (other : s.run.state ≠ .idle) (eq : s.quickStopRun = x) (link : x.link = s.link)
        (line : x.stopLine = s.stopLine) : exec (.quickStop []) s =
          .next (State.settle { x with link := s.link.place ⟨0x23, .ok, .empty⟩, stopLine := s.stopLine }) := by
      refine (exec_of_served served rfl).trans ?_
      rw [performQuickStop_eq, if_pos (exists_ other), eq, ← link, ← line]
      rfl
    have sewing_other (h : sews) : s.run.state ≠ .idle := by rcases h with h | h <;> simp [h]
    have held_other (h : held) : s.run.state ≠ .idle := by rcases h with h | h <;> simp [h]
    have held_idle (h : held) : ¬sews := by rcases h with h | h <;> simp [sews, h]
    refine ⟨fun idle => ⟨?_, ?_⟩, fun h => controlled_of h (linked_same 0x22) ?_, fun h asked busy => ?_,
      fun h fresh => ?_, fun h => ⟨unchanged_of (held_idle h) (linked_same 0x22) ?_,
        unchanged_of (held_idle h) (linked_same 0x23) ?_⟩, fun other => ?_, fun h => ?_⟩
    · refine (exec_of_served served rfl).trans ?_
      rw [performStop_eq, if_neg (by simp [State.runExists, idle])]
    · refine (exec_of_served served rfl).trans ?_
      rw [performQuickStop_eq, if_neg (by simp [State.runExists, idle])]
    · refine stop (sewing_other h) rfl ?_ ?_
      all_goals
        rw [State.stopRun_sewing h]
        split <;> rfl
    · have runs := quick (sewing_other h) (State.quickStopRun_sewing h) (by rw [if_pos asked]) (by rw [if_pos asked])
      rw [if_pos asked, State.settle, State.whenStill_busy (by exact busy)] at runs
      exact ⟨_, runs, rfl⟩
    · intro s1 turns
      have runs {x : State} (eq : (s.stopping .quickStop .quick).brake = x) (link : x.link = s.link)
          (line : x.stopLine = s.stopLine) := quick (sewing_other h)
        ((State.quickStopRun_sewing h).trans ((if_neg fresh).trans eq)) link line
      refine ⟨fun turning moves => ?_, fun other unstill => ?_, fun rests => ?_, fun turning rests => ?_⟩
      · have done := runs (State.brake_turning (by exact turning) (by exact moves)) rfl rfl
        rw [State.settle, State.whenStill_busy (.inl (by simp))] at done
        exact ⟨_, done, rfl⟩
      · have done := runs (State.brake_other (by exact other)) rfl rfl
        rw [State.settle, State.whenStill_busy (.inl (by exact unstill))] at done
        exact ⟨_, done, rfl⟩
      · have done := runs (State.brake_other (by simp [State.stopping, rests.1])) rfl rfl
        by_cases flies : s.frame.state.isMoving = true
        · rw [State.settle, State.whenStill_busy (.inr (by exact flies))] at done
          refine ⟨_, done, ?_, fun _ => rfl, fun unmoved => ?_, fun unmoved => ?_⟩
          · rw [State.arbitrate_heads]; rfl
          all_goals exact absurd flies (by simp [unmoved])
        · rw [State.settle, State.whenStill_quick (by rfl) (by rfl) (by exact rests.1) (by exact rests.2)
            (by exact Bool.eq_false_iff.2 flies)] at done
          refine ⟨_, done, ?_, fun flying => absurd flying flies, fun _ stitch => ?_, fun _ jump => ?_⟩
          · rw [State.arbitrate_heads]; rfl
          · rw [State.cutDone, cutActive_of_stitch (by exact stitch)]
            exact stopped_of .stopping true .quickStop s.shaft .quick s.heads _ _
          · rw [State.cutDone, cutActive_of_jump (by exact jump)]
            exact stopped_of .stopping true .quickStop { s.shaft with active := none } .quick s.heads _ _
      · intro pends rested
        have pends_eq : (s.shaft.active.any fun a => a.kind.penetrates) = pends := by
          change _ = match s.shaft.active with
            | some a => decide (a.kind ≠ RevKind.jump)
            | none => false
          cases s.shaft.active with
          | none => rfl
          | some a => cases kind : a.kind <;> simp [kind, RevKind.penetrates]
        obtain ⟨eq, heads⟩ := State.brake_resting (s := s.stopping .quickStop .quick) (by exact turning) (by exact rests)
        change _ = ({ s.stopping .quickStop .quick with
          shaft := { s1.shaft with
            state := .still, command := 0, atRest := true, vPrev := s.config.speedMin, backoff := false
            pendingFlag := s.shaft.active.any fun a => a.kind.penetrates }
          heads := (s.stopping .quickStop .quick).brake.heads } : State) at eq
        change ∀ h, _ = ({ s.heads.get h with
          latch := (s.heads.get h).latch && s.shaft.active.any fun a => a.kind.penetrates } : HeadRecord) at heads
        rw [pends_eq] at eq heads
        generalize (s.stopping .quickStop .quick).brake.heads = hs at eq heads
        have stands : ({ rested with atRest := true } : Shaft) = rested := by
          have own : rested.atRest = true := rests
          rw [← own]
        have braked : (s.stopping .quickStop .quick).brake =
            { s.stopping .quickStop .quick with shaft := rested, heads := hs } := by
          rw [eq, ← stands]
        have done := runs braked rfl rfl
        by_cases flies : s.frame.state.isMoving = true
        · rw [State.settle, State.whenStill_busy (.inr (by exact flies))] at done
          refine ⟨_, done, fun h => ?_, fun _ => ?_, fun unmoved => absurd flies (by simp [unmoved])⟩
          · rw [State.arbitrate_heads]; exact heads h
          · rw [State.arbitrate_heads]; rfl
        · rw [State.settle, State.whenStill_quick (by rfl) (by rfl) (by rfl) (by exact rests)
            (by exact Bool.eq_false_iff.2 flies)] at done
          refine ⟨_, done, fun h => ?_, fun flying => absurd flying flies, fun _ => ?_⟩
          · rw [State.arbitrate_heads]; exact heads h
          · have active : (rested.active.filter fun a => decide (a.kind ≠ RevKind.jump)) =
                if pends then s.shaft.active else none := pends_eq ▸ cutActive_eq s.shaft.active
            have cut : State.cutDone { s.stopping .quickStop .quick with
                shaft := rested, heads := hs, link := s.link.place ⟨0x23, .ok, .empty⟩, stopLine := s.stopLine } =
                { s.stopping .quickStop .quick with
                  shaft := { rested with active := if pends then s.shaft.active else none }, heads := hs
                  link := s.link.place ⟨0x23, .ok, .empty⟩, stopLine := s.stopLine } := by
              rw [State.cutDone, show (Option.filter _ _ : Option Active) = _ from active]
            exact cut ▸ stopped_of .stopping true .quickStop
              { rested with active := if pends then s.shaft.active else none } .quick hs _ _
    · exact stop (held_other h) (State.stopRun_held (.inr h) _) rfl rfl
    · exact quick (held_other h) (State.quickStopRun_held (.inr h)) rfl rfl
    · refine (exec_of_served served rfl).trans ?_
      rw [performAbort_eq, if_neg (mt (held_iff _).1 other)]
    · have done : exec (.abort []) s = .next ((s.endRun .aborted s.run.reason).reply 0x24 .ok .empty) := by
        refine (exec_of_served served rfl).trans ?_
        rw [performAbort_eq, if_pos ((held_iff _).2 h)]
      have eq := s.endRun_eq .aborted s.run.reason
      have heads := s.endRun_head .aborted s.run.reason
      have closed {k : Key} (sound : s.conditionsSound) := State.endRun_closed (k := k) .aborted s.run.reason sound
      generalize s.endRun .aborted s.run.reason = x at done eq heads closed
      refine ⟨_, done, ?_, ?_, ?_, ?_, ?_, ?_, fun h => ?_, ?_, ?_, ?_, ?_, ?_, ?_, fun sound => ⟨?_, ?_, ?_, fun h => ?_⟩⟩
      · change x.run = _
        rw [eq]; rfl
      · change x.queue = _
        rw [eq]; rfl
      · change x.feed.activity = _
        rw [eq]; rfl
      · change x.frame = _
        rw [eq]; rfl
      · intro atBand
        change x.shaft = _
        rw [eq]
        change Shaft.bandCheck s.config
          { s.shaft with active := none, pendingFlag := false, stopReq := .none } = _
        unfold Shaft.bandCheck
        by_cases within : atBand
        · rw [if_pos ⟨within.1, within.2.imp_right (⟨·, rfl⟩)⟩, if_pos within]
          by_cases rests : s.shaft.atRest = true
          · rw [if_pos (by exact rests), if_pos ⟨within, rests⟩]
          · rw [if_neg (by exact rests), if_neg fun both => rests both.2]
        · rw [if_neg fun both => within ⟨both.1, both.2.imp_right (·.1)⟩, if_neg within, if_neg fun both => within both.1]
      · change x.link.place _ = _
        rw [eq]; rfl
      · change (x.heads.get h).state = _ ∧ (x.heads.get h).balance = _ ∧ (x.heads.get h).grace = _ ∧
          (x.heads.get h).looseQuiet = _ ∧ (x.heads.get h).meter = _ ∧ (x.heads.get h).trimmer = _ ∧
          (x.heads.get h).latch = _
        rw [heads]
        refine ⟨?_, rfl, rfl, rfl, rfl, rfl, rfl⟩
        cases state : (s.heads.get h).state <;> simp [HeadRecord.endRun, state]
      · change x.config = _
        rw [eq]; rfl
      · change x.store = _
        rw [eq]; rfl
      · change x.designs = _
        rw [eq]; rfl
      · change x.needles = _
        rw [eq]; rfl
      · change x.burst = _
        rw [eq]; rfl
      · change x.lastGranted = _
        rw [eq]; rfl
      · exact closed sound (.inl rfl)
      · exact closed sound (.inr (.inl rfl))
      · exact closed sound (.inr (.inr (.inl rfl)))
      · exact closed sound (.inr (.inr (.inr ⟨h, rfl⟩)))
  · rw [exec_stopLineActive off, State.stopRun_sewing (by exact h), State.stopRun_sewing h]
    split <;> rfl
  · exact fun h => idle.elim (fun i => by rcases h with h | h <;> simp [i] at h)
      fun k => by rcases h with h | h <;> rcases k with k | k <;> simp [h] at k
  · rw [exec_stopLineActive off, State.stopRun_held (by exact idle)]

end Sys2Proof.Proofs
end

section
/-! PROOFS. The carriage outside a colour change (R120, R121, R128 to R130). -/

namespace Sys2Proof.Machine

variable {s t x : State} {n p q : Needle} {code : Fin 16}

/-! ## Positions -/

theorem needleAt_zero (h : code.val = 0) : needleAt code = none := dif_pos h

theorem needleAt_succ (h : code.val = n.val + 1) : needleAt code = some n := by
  unfold needleAt
  rw [dif_neg (by omega)]
  exact congrArg some (Fin.ext (by simp [h]))

theorem needleAt_eq_some_iff : needleAt code = some n ↔ code.val = n.val + 1 := by
  refine ⟨fun h => ?_, needleAt_succ⟩
  unfold needleAt at h
  split at h
  · cases h
  · obtain rfl := Option.some.inj h
    simp
    omega

theorem needleAt_last (code : Fin 16) (last : Option Needle) :
    (needleAt code).or last = if code.val = 0 then last else needleAt code := by
  unfold needleAt
  split <;> rfl

/-! ## Steps and completions where no colour change is made -/

section Unchanging

variable (other : s.run.state ≠ .changing)
include other

/-- A move by request is complete (R129). -/
theorem State.carriageDone_unchanging (n : Needle) : s.carriageDone n = State.clearCause .carriageFault
    { s with carriage := { s.carriage with state := .idle }, run := { s.run with needle := some n } } := by
  unfold State.carriageDone
  dsimp only
  rw [if_neg other]
  rfl

theorem State.carriageFault_unchanging (fault : CarriageFault) (target : Option Needle) :
    s.carriageFault fault target = s.carriageCause fault target := if_neg other

theorem State.stepDone_unchanging (p n : Needle) : s.stepDone p n =
    if p = n then
      if s.config.carriageSettle = 0 then s.carriageDone n
      else { s with carriage := { s.carriage with state := .settling n } }
    else { s with carriage := s.carriage.step p n } := by
  have slow : s.quickInChange = false := by simp [State.quickInChange, other]
  unfold State.stepDone
  rw [if_neg (by simp [slow])]

end Unchanging

/-- The state with the code that the code inputs give (R120). -/
def State.coded (code : Fin 16) (s : State) : State :=
  { s with carriage := { s.carriage with code := code, last := (needleAt code).or s.carriage.last } }

theorem exec_carriageCodeChange (fresh : code ≠ s.carriage.code) :
    exec (.carriageCodeChange code) s = .next (s.codeChange code).settle := if_neg fresh

theorem State.codeChange_calm (calm : s.carriage.state = .idle ∨ ∃ n, s.carriage.state = .settling n) :
    s.codeChange code = s.coded code := by
  rcases calm with idle | ⟨n, settling⟩
  · simp only [State.codeChange, State.coded, idle]
  · simp only [State.codeChange, State.coded, settling]

theorem State.codeChange_between {expected : Option Needle} (steps : s.carriage.state = .stepping n expected)
    (between : needleAt code = none) : s.codeChange code = s.coded code := by
  simp only [State.codeChange, State.coded, steps, between]

theorem State.codeChange_expected (steps : s.carriage.state = .stepping n (some q)) (reached : needleAt code = some q) :
    s.codeChange code = (s.coded code).stepDone q n := by
  simp only [State.codeChange, State.coded, steps, reached, if_true]

theorem State.codeChange_search (steps : s.carriage.state = .stepping n none) (reached : needleAt code = some p) :
    s.codeChange code = (s.coded code).stepDone p n := by
  simp only [State.codeChange, State.coded, steps, reached]

theorem State.codeChange_wrong (steps : s.carriage.state = .stepping n (some q)) (reached : needleAt code = some p)
    (apart : p ≠ q) (moved : s.carriage.last ≠ some p) :
    s.codeChange code = (s.coded code).carriageFault .wrongPosition (some n) := by
  simp only [State.codeChange, State.coded, steps, reached, if_neg apart, if_neg moved]

/-! ## The shaft leaves rest during a step -/

/-- `t` differs from `x` by a crossing with no record in progress and no run that sews. -/
structure State.crossedFrom (x t : State) : Prop where
  frame : t = { x with
    shaft := t.shaft, frame := t.frame, heads := t.heads, conditions := t.conditions, changes := t.changes }
  turns : t.shaft.atRest = x.shaft.atRest
  angle : t.shaft.angle = x.shaft.angle
  stopReq : t.shaft.stopReq = x.shaft.stopReq
  still : x.shaft.state = .still → t.shaft.state = .still
  fault : t.entries .carriageFault = x.entries .carriageFault

theorem State.windowOpen_crossedFrom (none_ : x.shaft.active = none) (idle : x.sewing = false)
    (turns : x.shaft.atRest = false) : x.crossedFrom x.windowOpen := by
  have cleared : x.crossedFrom x.clearStall := by
    constructor
    case fault =>
      unfold State.clearStall
      split
      · exact State.entries_clearCause_ne (by simp) x
      · rfl
    case still => rw [State.clearStall_eq]; exact id
    all_goals rw [State.clearStall_eq]
  have shaft : x.clearStall.shaft = x.shaft := by rw [State.clearStall_eq]
  have recorded : x.clearStall.completeRecord = x.clearStall := by
    simp only [State.completeRecord, shaft, none_]
  have sewing : x.clearStall.sewing = false := by
    rw [State.sewing_congr (s := x) (by rw [State.clearStall_eq]), idle]
  have still : x.clearStall.shaft.atRest = false := shaft ▸ turns
  cases state : x.shaft.state with
  | turning =>
    rw [State.windowOpen_of_turning state, recorded, State.beginOrPark_parks (.inr (.inl sewing)), State.park_turning still]
    exact ⟨by rw [cleared.frame], cleared.turns, cleared.angle, cleared.stopReq, fun h => by simp [state] at h, cleared.fault⟩
  | braking => rw [State.windowOpen_of_braking state, recorded]; exact cleared
  | positioning =>
    rw [State.windowOpen_of_positioning state, recorded, State.bandCheck_positioning still (shaft ▸ state)]
    exact ⟨by rw [cleared.frame], cleared.turns, cleared.angle, cleared.stopReq, fun h => by simp [state] at h, cleared.fault⟩
  | parking => rw [State.windowOpen_of_other (.inl state)]; exact cleared
  | coasting => rw [State.windowOpen_of_other (.inr (.inl state))]; exact cleared
  | still => rw [State.windowOpen_of_other (.inr (.inr state))]; exact cleared

theorem State.windowClose_crossedFrom (x : State) : x.crossedFrom x.windowClose := by
  have late : ∃ f sh, x.overrun = { x with frame := f, shaft := sh } ∧ ∃ b, sh = { x.shaft with backoff := b } := by
    cases flies : x.frame.sewingInFlight with
    | true => exact ⟨_, _, State.overrun_late flies, _, rfl⟩
    | false => exact ⟨_, _, State.overrun_timely flies, _, rfl⟩
  obtain ⟨f, _, late, b, rfl⟩ := late
  have trims := State.fireTrimmers_eq { x with frame := f, shaft := { x.shaft with backoff := b } }
  unfold State.windowClose
  rw [late]
  generalize State.fireTrimmers _ = y at trims ⊢
  exact ⟨by rw [trims], by rw [trims], by rw [trims], by rw [trims], by rw [trims]; exact id,
    by unfold State.entries; rw [trims]⟩

/-- The shaft leaves rest during a step: the carriage stops at a fault (R121). -/
theorem State.turnTo_stepping {expected : Option Needle} (steps : s.carriage.state = .stepping n expected)
    (rests : s.shaft.atRest = true) (other : s.run.state ≠ .changing) (count : BitVec 10) (made : Bool) :
    s.turnTo count made = (State.carriageCause .shaftMoved (some n)
      { s with shaft := { s.shaft with angle := count, atRest := false, crossed := made } }).bandCheck := by
  unfold State.turnTo
  dsimp only
  rw [if_pos rests]
  simp only [State.shaftMoved, steps]
  rw [State.carriageFault_unchanging (s := { s with
    shaft := { s.shaft with angle := count, atRest := false, crossed := made } }) other]

/-- What a turn of the shaft to a count makes of a state, but for the grant. -/
def State.turned (s : State) (count : BitVec 10) (t : State) : Prop :=
  ∃ made u, (s.turnTo count made).crossedFrom u ∧ (t = u ∨ t = u.arbitrate)

theorem exec_turned (none_ : ∀ count made, (s.turnTo count made).shaft.active = none)
    (idle : ∀ count made, (s.turnTo count made).sewing = false)
    (turns : ∀ count made, (s.turnTo count made).shaft.atRest = false) {i : Instr}
    (moves : (∃ count, i = .encoderCountChange count ∧ count ≠ s.shaft.angle) ∨
      s.shaft.crossed = false ∧ (i = .windowOpenCrossing ∨ i = .windowCloseCrossing)) :
    ∃ t count, exec i s = .next t ∧ s.turned count t ∧ ∀ c, i = .encoderCountChange c → count = c := by
  have opens (count : BitVec 10) (made : Bool) : s.turned count (s.turnTo count made).windowOpen.arbitrate :=
    ⟨made, _, State.windowOpen_crossedFrom (none_ count made) (idle count made) (turns count made), .inr rfl⟩
  have closes (count : BitVec 10) (made : Bool) : s.turned count (s.turnTo count made).windowClose :=
    ⟨made, _, State.windowClose_crossedFrom _, .inl rfl⟩
  rcases moves with ⟨count, rfl, moved⟩ | ⟨fresh, rfl | rfl⟩
  · by_cases atOpen : count = s.shaft.angle + 1 ∧ count = countOf s.config.windowOpen
    · exact ⟨_, count, exec_count_windowOpen atOpen.1 atOpen.2, opens _ _, by simp⟩
    · by_cases atClose : count = s.shaft.angle + 1 ∧ count = countOf s.config.windowClose
      · exact ⟨_, count, exec_count_windowClose atClose.1 (fun h => atOpen ⟨atClose.1, h⟩) atClose.2, closes _ _, by simp⟩
      · exact ⟨_, count, exec_count_plain moved fun forward => ⟨fun h => atOpen ⟨forward, h⟩, fun h => atClose ⟨forward, h⟩⟩,
          ⟨false, _, ⟨rfl, rfl, rfl, rfl, id, rfl⟩, .inl rfl⟩, by simp⟩
  · exact ⟨_, _, exec_windowOpen (.inl fresh), opens _ _, by simp⟩
  · exact ⟨_, _, exec_windowClose (.inl fresh), closes _ _, by simp⟩

end Sys2Proof.Machine

namespace Sys2Proof.Proofs
open Sys2Proof.Machine

/-- Settles O41. -/
theorem carriageMoves : Obligations.CarriageMoves := by
  intro s run none_ at? done failed kept toward dir
  have other : s.run.state ≠ .changing := by rcases run with h | h <;> simp [h]
  have idle : s.sewing = false := by rcases run with h | h <;> simp [State.sewing, h]
  have settles {x : State} (run : x.run.state = s.run.state) (shaft : x.shaft = s.shaft) : x.settle = x.arbitrate :=
    State.settle_of_not_sewing x (by simpa [State.sewing, run] using idle) (shaft ▸ none_)
  have noPosition : s.colourPosition = none := State.colourPosition_of_other run
  have completes (n : Needle) (c : Carriage) (l : Link) :
      done n (State.clearCause .carriageFault { s with
        carriage := { c with state := .idle }, run := { s.run with needle := some n }, link := l }) := by
    rw [State.clearCause_eq]
    refine ⟨rfl, rfl, rfl, rfl, rfl, rfl, rfl, fun sound => ?_⟩
    have closed := State.clearCause_causeOpen (s := { s with
      carriage := { c with state := .idle }, run := { s.run with needle := some n }, link := l }) sound .carriageFault
    rwa [State.clearCause_eq] at closed
  have fails (f : CarriageFault) (n : Needle) (c : Carriage) :
      failed f n (State.carriageCause f (some n) { s with carriage := c }) := by
    refine ⟨rfl, rfl, rfl, rfl, rfl, rfl, rfl, ?_⟩
    have cause := State.condition?_carriageCause f (some n) { s with carriage := c }
    rwa [show State.colourPosition { s with carriage := c } = none from noPosition] at cause
  have granted_done {n : Needle} {x : State} (h : done n x) : done n x.arbitrate := by
    simpa only [done, State.arbitrate_run, State.arbitrate_carriage, State.arbitrate_frame, State.arbitrate_shaft,
      State.arbitrate_heads, State.arbitrate_needles, State.arbitrate_store, State.causeOpen,
      State.arbitrate_conditions] using h
  have granted_failed {f : CarriageFault} {n : Needle} {x : State} (h : failed f n x) : failed f n x.arbitrate := by
    simpa only [failed, State.arbitrate_run, State.arbitrate_carriage, State.arbitrate_frame, State.arbitrate_shaft,
      State.arbitrate_heads, State.arbitrate_needles, State.arbitrate_store, State.condition?,
      State.arbitrate_conditions] using h
  have coded_between {code : Fin 16} (between : code.val = 0) :
      s.coded code = { s with carriage := { s.carriage with code := code } } := by
    rw [State.coded, needleAt_zero between]
    rfl
  have coded_at {code : Fin 16} {q : Needle} (reached : needleAt code = some q) :
      s.coded code = { s with carriage := { s.carriage with code := code, last := some q } } := by
    rw [State.coded, reached]
    rfl
  have leaves {x y : State} {i : Instr} (runs : exec i s = .next x.settle) (eq : x = y)
      (run : y.run.state = s.run.state) (shaft : y.shaft = s.shaft) : exec i s = .next y.arbitrate := by
    rw [runs, eq, settles run shaft]
  refine ⟨fun b n served number line rests still stands => ?_,
    fun n q code steps fresh => ⟨fun between => ?_, fun at_ => ⟨fun target slow => ?_, fun target fast => ?_,
      fun short => ?_⟩, fun p reached apart moved => ?_⟩,
    fun code => ⟨fun same => if_pos same, fun fresh calm => ?_⟩, fun n expected steps => ?_,
    fun n settling => ⟨fun at_ => ?_, fun off => ?_⟩,
    fun n code steps fresh => ⟨fun between => ?_, fun p reached => ⟨fun target slow => ?_, fun short => ?_⟩⟩,
    fun n expected i steps rests moves => ?_⟩
  · have runs : exec (.selectNeedle [b]) s = .next ((s.moveCarriageTo n).reply 0x33 .ok .empty) := by
      refine (exec_of_served served rfl).trans ?_
      rw [performSelectNeedle_eq number, State.checked_holds s.select_same
        (by simpa using ⟨run, line, ⟨rests, still⟩, stands⟩)]
    refine ⟨fun at_ => ?_, fun p position apart => ⟨_, stepToward_toward p n, ?_⟩, fun between => ?_⟩
    · rw [State.moveCarriageTo, if_pos (needleAt_succ at_), State.carriageDone_unchanging other] at runs
      refine ⟨_, runs, completes n s.carriage s.link, ?_, ?_⟩
      · rw [State.clearCause_eq]; rfl
      · rw [State.clearCause_eq]; exact ⟨rfl, rfl⟩
    · rw [runs, State.moveCarriageTo, if_neg (by simpa [position] using apart), Carriage.beginMove, position]
      rfl
    · rw [runs, State.moveCarriageTo, if_neg (by simp [needleAt_zero between]), Carriage.beginMove, needleAt_zero between]
      rfl
  · exact ⟨_, leaves (exec_carriageCodeChange fresh)
      ((State.codeChange_between steps (needleAt_zero between)).trans (coded_between between)) rfl rfl, rfl⟩
  · refine ⟨_, leaves (exec_carriageCodeChange fresh) ((State.codeChange_expected steps (needleAt_succ at_)).trans
      (State.stepDone_unchanging (s := s.coded code) other q n)) ?_ ?_, ?_⟩
    all_goals rw [if_pos target, if_neg (by exact Nat.pos_iff_ne_zero.1 slow), coded_at (needleAt_succ at_)]
    rfl
  · have runs := exec_carriageCodeChange fresh
    rw [State.codeChange_expected steps (needleAt_succ at_), State.stepDone_unchanging (s := s.coded code) other,
      if_pos target, if_pos (by exact fast), State.carriageDone_unchanging (s := s.coded code) other,
      coded_at (needleAt_succ at_), settles (by rw [State.clearCause_eq]) (by rw [State.clearCause_eq])] at runs
    exact ⟨_, runs, granted_done (completes n _ s.link),
      State.granted_of (by rw [State.clearCause_eq]) (by rw [State.clearCause_eq])⟩
  · refine ⟨_, _, leaves (exec_carriageCodeChange fresh) ((State.codeChange_expected steps (needleAt_succ at_)).trans
      (State.stepDone_unchanging (s := s.coded code) other q n)) ?_ ?_, stepToward_toward q n, ?_⟩
    all_goals rw [if_neg short, coded_at (needleAt_succ at_)]
    rfl
  · have runs := exec_carriageCodeChange fresh
    rw [State.codeChange_wrong steps reached apart moved, State.carriageFault_unchanging (s := s.coded code) other,
      settles (by rfl) (by rfl)] at runs
    exact ⟨_, runs, granted_failed (fails _ n _), State.granted_of rfl rfl⟩
  · refine ⟨_, leaves (exec_carriageCodeChange fresh) (State.codeChange_calm calm) rfl rfl, ?_⟩
    rw [State.coded, needleAt_last]
    rfl
  · have runs : exec .carriageStepTimeout s = .next (s.carriageCause .timeout (some n)) := by
      change Host.Outcome.next s.stepTimeout = _
      rw [State.stepTimeout, steps, ← State.carriageFault_unchanging other]
    exact ⟨_, runs, fails _ n s.carriage, rfl, rfl⟩
  · have runs : exec .carriageSettleEnd s = .next (s.carriageDone n).settle := by
      change execCarriageSettleEnd s = _
      simp only [execCarriageSettleEnd, State.settleEnd, settling, if_pos (needleAt_succ at_)]
    rw [State.carriageDone_unchanging other,
      settles (by rw [State.clearCause_eq]) (by rw [State.clearCause_eq])] at runs
    exact ⟨_, runs, granted_done (completes n _ s.link),
      State.granted_of (by rw [State.clearCause_eq]) (by rw [State.clearCause_eq])⟩
  · have runs : exec .carriageSettleEnd s = .next (s.carriageCause .wrongPosition (some n)).settle := by
      change execCarriageSettleEnd s = _
      simp only [execCarriageSettleEnd, State.settleEnd, settling, if_neg (mt needleAt_eq_some_iff.1 off),
        State.carriageFault_unchanging other]
    rw [settles (by rfl) (by rfl)] at runs
    exact ⟨_, runs, granted_failed (fails _ n s.carriage), State.granted_of rfl rfl⟩
  · exact ⟨_, leaves (exec_carriageCodeChange fresh)
      ((State.codeChange_between steps (needleAt_zero between)).trans (coded_between between)) rfl rfl, rfl⟩
  · refine ⟨_, leaves (exec_carriageCodeChange fresh) ((State.codeChange_search steps reached).trans
      (State.stepDone_unchanging (s := s.coded code) other p n)) ?_ ?_, ?_⟩
    all_goals rw [if_pos target, if_neg (by exact Nat.pos_iff_ne_zero.1 slow), coded_at reached]
    rfl
  · refine ⟨_, _, leaves (exec_carriageCodeChange fresh) ((State.codeChange_search steps reached).trans
      (State.stepDone_unchanging (s := s.coded code) other p n)) ?_ ?_, stepToward_toward p n, ?_⟩
    all_goals rw [if_neg short, coded_at reached]
    rfl
  · have turned := State.turnTo_stepping steps rests other
    obtain ⟨t, count, runs, ⟨made, u, crossed, shape⟩, -⟩ := exec_turned
      (fun count made => by rw [turned, State.bandCheck, Shaft.bandCheck_turning _ (by rfl)]; exact none_)
      (fun count made => by rw [turned]; exact idle)
      (fun count made => by rw [turned, State.bandCheck, Shaft.bandCheck_turning _ (by rfl)]; rfl) moves
    rw [turned] at crossed
    have kept : t.run = u.run ∧ t.carriage = u.carriage ∧ t.shaft = u.shaft ∧ t.needles = u.needles ∧
        t.store = u.store ∧ t.conditions = u.conditions := by
      rcases shape with rfl | rfl <;> simp
    obtain ⟨t_run, t_carriage, t_shaft, t_needles, t_store, t_conditions⟩ := kept
    refine ⟨t, runs, ?_, ?_, ?_, ?_, ?_, ?_⟩
    · rw [t_run, crossed.frame]; rfl
    · rw [t_carriage, crossed.frame]; rfl
    · rw [t_shaft, crossed.turns, State.bandCheck, Shaft.bandCheck_turning _ (by rfl)]; rfl
    · rw [t_needles, crossed.frame]; rfl
    · rw [t_store, crossed.frame]; rfl
    · have cause := State.condition?_carriageCause .shaftMoved (some n)
        { s with shaft := { s.shaft with angle := count, atRest := false, crossed := made } }
      rw [show State.colourPosition { s with
        shaft := { s.shaft with angle := count, atRest := false, crossed := made } } = none from noPosition] at cause
      have same : t.condition? .carriageFault = (State.carriageCause .shaftMoved (some n) { s with
          shaft := { s.shaft with angle := count, atRest := false, crossed := made } }).condition? .carriageFault := by
        refine State.condition?_of_entries (Eq.trans ?_ crossed.fault)
        unfold State.entries
        rw [t_conditions]
      rw [same]
      exact cause

end Sys2Proof.Proofs
end

section
/-! PROOFS. A colour change in progress (R121 to R128, R144, R146). -/

namespace Sys2Proof.Machine

variable {s t x a b : State} {e : Entry} {rest : List Entry} {n q : Needle}

/-! ## A begin point looks at the listed parts of the state alone -/

theorem State.effectiveCap_congr (config : b.config = a.config) (shaft : b.shaft = a.shaft) :
    b.effectiveCap = a.effectiveCap := by
  unfold State.effectiveCap State.floorSpeed
  rw [config, shaft]

theorem State.begun_congr (run : b.run = a.run) (shaft : b.shaft = a.shaft) (heads : ∀ h, b.heads.get h = a.heads.get h)
    (frame : b.frame = a.frame) (config : b.config = a.config) (store : b.store = a.store)
    (designs : b.designs = a.designs) (needles : b.needles = a.needles) (carriage : b.carriage = a.carriage)
    (burst : b.burst = a.burst) (last : b.lastGranted = a.lastGranted) (begun : b.begun e rest t) :
    a.begun e rest t := by
  unfold State.begun at begun ⊢
  have plan : b.planSpeed e rest = a.planSpeed e rest :=
    State.planSpeed_congr config (congrArg Run.needle run) needles shaft rfl Iff.rfl rest
  obtain ⟨queue, begun⟩ := begun
  rw [run, shaft, plan, State.effectiveCap_congr config shaft, frame, config, store, designs, needles, carriage] at begun
  simp only [heads] at begun
  unfold State.granted at begun ⊢
  rw [burst, last] at begun
  exact ⟨queue, begun⟩

/-! ## The causes that a begin point leaves -/

/-- A begin point keeps the cause of a head that is BROKEN (R151). -/
theorem State.beginPoint_broken (e : Entry) (rest : List Entry) (s : State) {h : Head}
    (broken : (s.heads.get h).state.isBroken = true) :
    (s.beginPoint e rest).entries (.threadBreak h) = s.entries (.threadBreak h) := by
  have eq := s.beginPoint_eq e rest
  have conditions : (s.beginPoint e rest).entries (.threadBreak h) =
      ((s.commitSpeed e rest).take e rest).entries (.threadBreak h) := by
    unfold State.entries
    rw [eq]
  rw [conditions, State.take]
  split
  · refine (State.entries_testThreadBreaks _ h).trans (if_pos ?_)
    rw [Bool.or_eq_true]
    refine .inl ?_
    rw [Table.get_map]
    change (HeadRecord.rejoin _ (s.heads.get h)).state.isBroken = true
    rw [HeadRecord.rejoin_state]
    cases state : (s.heads.get h).state <;> simp [state, HeadState.isBroken] at broken ⊢
  · rfl

theorem HeadState.isSound_iff (x : HeadState) : x.isSound = true ↔ x = .sewing ∨ ∃ m, x = .waiting m := by
  cases x <;> simp [HeadState.isSound]

/-! ## Events while a colour change is made -/

/-- The carriage has stopped. -/
def State.carriageStopped (s : State) : State := { s with carriage := { s.carriage with state := .idle } }

section Changing

variable (changing : s.run.state = .changing)
include changing

theorem exec_settleEnd_target (settling : s.carriage.state = .settling n) (at_ : s.carriage.code.val = n.val + 1) :
    exec .carriageSettleEnd s = .next (s.carriageStopped.changeDone n).settle := by
  change execCarriageSettleEnd s = _
  simp only [execCarriageSettleEnd, State.settleEnd, settling, if_pos (needleAt_succ at_), State.carriageDone]
  rw [if_pos changing]
  rfl

theorem State.carriageFault_changing (fault : CarriageFault) (target : Option Needle) :
    s.carriageFault fault target = (s.carriageCause fault target).enterStopped .carriageFault := if_pos changing

theorem exec_settleEnd_wrong (settling : s.carriage.state = .settling n) (off : s.carriage.code.val ≠ n.val + 1) :
    exec .carriageSettleEnd s =
      .next ((s.carriageCause .wrongPosition (some n)).enterStopped .carriageFault).settle := by
  change execCarriageSettleEnd s = _
  simp only [execCarriageSettleEnd, State.settleEnd, settling, if_neg (mt needleAt_eq_some_iff.1 off),
    State.carriageFault_changing changing]

theorem exec_stepTimeout_changing {expected : Option Needle} (steps : s.carriage.state = .stepping n expected) :
    exec .carriageStepTimeout s = .next ((s.carriageCause .timeout (some n)).enterStopped .carriageFault) := by
  change Host.Outcome.next s.stepTimeout = _
  rw [State.stepTimeout, steps, ← State.carriageFault_changing changing]

theorem State.stopRun_changing (reason : StopReason) : s.stopRun reason = { s with run := s.run.hold reason } := by
  rw [← State.requestStop_changing changing]
  simp only [State.stopRun, changing]

theorem State.turnTo_stepping_changing {expected : Option Needle} (steps : s.carriage.state = .stepping n expected)
    (rests : s.shaft.atRest = true) (count : BitVec 10) (made : Bool) :
    s.turnTo count made = ((State.carriageCause .shaftMoved (some n)
      { s with shaft := { s.shaft with angle := count, atRest := false, crossed := made } }).enterStopped
        .carriageFault).bandCheck := by
  unfold State.turnTo
  dsimp only
  rw [if_pos rests]
  simp only [State.shaftMoved, steps]
  rw [State.carriageFault_changing (s := { s with
    shaft := { s.shaft with angle := count, atRest := false, crossed := made } }) changing]

end Changing

end Sys2Proof.Machine

namespace Sys2Proof.Proofs
open Sys2Proof.Machine

/-- Settles O42: the state behind the colour-change rule is `changedTo`, and each clause reads what follows it. -/
theorem colourChange : Obligations.ColourChange := by
  intro s e rest changing queue none_ calm held same left failed linked onHold
  have unsewn : s.sewing = false := by simp [State.sewing, changing]
  have fails (fault : CarriageFault) (n : Needle) :
      failed fault n ((s.carriageCause fault (some n)).enterStopped .carriageFault) := by
    have cause := State.condition?_carriageCause fault (some n) s
    rw [State.colourPosition_of_changing changing queue] at cause
    refine ⟨⟨?_, rfl, rfl, rfl, rfl⟩, ⟨rfl, rfl, rfl, rfl, rfl, rfl, rfl⟩, rfl, cause⟩
    rw [State.enterStopped_eq, State.holdPoint_of_queue (by exact queue)]
    rfl
  have granted_failed {fault : CarriageFault} {n : Needle} {x : State} (h : failed fault n x) :
      failed fault n x.arbitrate := by
    simpa only [failed, held, same, State.arbitrate_run, State.arbitrate_queue, State.arbitrate_feed,
      State.arbitrate_link, State.arbitrate_config, State.arbitrate_designs, State.arbitrate_enable,
      State.arbitrate_carriage, State.arbitrate_frame, State.arbitrate_shaft, State.arbitrate_heads,
      State.arbitrate_needles, State.arbitrate_store, State.condition?, State.arbitrate_conditions] using h
  have granted_abandoned {x : State} (h : held (left .quickStop) x ∧ same x ∧ x.heads = s.heads)
      (hold : onHold x.arbitrate) : held (left .quickStop) x.arbitrate ∧ same x.arbitrate ∧
        x.arbitrate.heads = s.heads ∧ onHold x.arbitrate := by
    simp only [← and_assoc]
    refine ⟨?_, hold⟩
    simp only [and_assoc]
    simpa only [held, same, State.arbitrate_run, State.arbitrate_queue, State.arbitrate_feed,
      State.arbitrate_link, State.arbitrate_config, State.arbitrate_designs, State.arbitrate_enable,
      State.arbitrate_carriage, State.arbitrate_frame, State.arbitrate_shaft, State.arbitrate_heads,
      State.arbitrate_needles, State.arbitrate_store] using h
  have exists_ : s.runExists = true := decide_eq_true (by simp [changing])
  have stops (served : s.served) : exec (.stop []) s = .next ((s.stopRun .hostStop).reply 0x22 .ok .empty).settle := by
    refine (exec_of_served served rfl).trans ?_
    rw [performStop_eq, if_pos exists_]
  have quick (served : s.served) : exec (.quickStop []) s = .next (s.quickStopRun.reply 0x23 .ok .empty).settle := by
    refine (exec_of_served served rfl).trans ?_
    rw [performQuickStop_eq, if_pos exists_]
  refine ⟨fun n settling at_ => ?_, fun n settling off => ?_, fun n q steps => ?_, fun on => if_pos on, fun off => ⟨fun free => ?_, fun pending => ?_⟩,
    fun served => ⟨fun free => ?_, fun pending => ?_, fun n settling => ?_, fun n q steps => ?_⟩,
    fun n q code steps fresh at_ pending quick => ?_, fun n expected count steps rests still fresh => ?_⟩
  · intro ready mend after sound lost noneLeft opened goesOn done onward tdc
    have runs := exec_settleEnd_target changing settling at_
    obtain ⟨u, ends, changed⟩ := State.changeDone_changedTo (s := s.carriageStopped) (n := n) changing queue
    rw [ends] at runs
    have ready_iff (h : Head) : (s.carriageStopped.atNeedle n).readyNow h = true ↔ ready h := decide_eq_true_iff
    have row (h : Head) : (s.carriageStopped.atNeedle n).colourRecord h = after h := by
      have head : (s.carriageStopped.atNeedle n).heads.get h = s.heads.get h := rfl
      by_cases on : s.enabled h = true
      · rw [State.colourRecord, if_pos (by exact on), State.colourRow, head]
        simp only [after, if_neg (show ¬s.enabled h = false by simp [on])]
        by_cases ok : ready h
        · rw [(ready_iff h).2 ok]
          cases state : (s.heads.get h).state <;> simp only [if_pos ok] <;> rfl
        · rw [Bool.eq_false_iff.2 (mt (ready_iff h).1 ok)]
          cases state : (s.heads.get h).state <;> simp only [if_neg ok] <;> rfl
      · rw [State.colourRecord, if_neg (by exact on), head]
        exact (if_pos (Bool.eq_false_iff.2 on)).symm
    have record (h : Head) : u.heads.get h = after h := (changed.record h).trans (row h)
    have lost_iff : (∃ h, (s.carriageStopped.atNeedle n).lostAt h) ↔ lost :=
      exists_congr fun h => and_congr Iff.rfl
        (and_congr (by rw [← Bool.not_eq_true, ready_iff]) (HeadState.isSound_iff _))
    have none_iff : (s.carriageStopped.atNeedle n).noneAfterColour ↔ noneLeft :=
      forall_congr' fun h => by rw [row, ← Bool.not_eq_true, HeadState.isSound_iff]
    have found_iff : (∀ h, ¬(s.carriageStopped.atNeedle n).lostAt h) ↔ ¬lost := by rw [← lost_iff, not_exists]
    have free_run (free : s.run.pendingStop = false) (reason : StopReason) :
        (s.carriageStopped.atNeedle n).run.hold reason =
          { (s.carriageStopped.atNeedle n).run with pendingStop := true, reason := reason } :=
      Run.hold_of_free (by exact free) reason
    have run_pending (pending : s.run.pendingStop = true) : u.run = { done with state := .changing } := by
      have kept (reason : StopReason) : (s.carriageStopped.atNeedle n).run.hold reason =
          (s.carriageStopped.atNeedle n).run := Run.hold_of_pending (by exact pending) reason
      have same_run : u.run = { (s.carriageStopped.atNeedle n).run with chain := some e.pos } := by
        by_cases drops : lost ∧ s.config.breakPolicy = .stop
        · rw [changed.lost (lost_iff.2 drops.1) drops.2, kept]
        · have stays := (not_and_or.1 drops).imp_left found_iff.2
          by_cases nobody : noneLeft
          · rw [changed.none_ stays (none_iff.2 nobody), kept]
          · rw [changed.left_ stays (mt none_iff.1 nobody)]
      rw [same_run, ← changing]
      rfl
    have run_lost (free : s.run.pendingStop = false) (drops : lost) (policy : s.config.breakPolicy = .stop) :
        u.run = { done with state := .changing, pendingStop := true, reason := .breakStop } := by
      rw [changed.lost (lost_iff.2 drops) policy, free_run free, ← changing]
      rfl
    have run_none (free : s.run.pendingStop = false) (stays : ¬(lost ∧ s.config.breakPolicy = .stop)) (nobody : noneLeft) :
        u.run = { done with state := .changing, pendingStop := true, reason := .noHeads } := by
      rw [changed.none_ ((not_and_or.1 stays).imp_left found_iff.2) (none_iff.2 nobody), free_run free, ← changing]
      rfl
    have run_on (onwards : goesOn) : u.run = { done with state := .changing } := by
      obtain ⟨-, stays, somebody⟩ := onwards
      rw [changed.left_ ((not_and_or.1 stays).imp_left found_iff.2) (mt none_iff.1 somebody), ← changing]
      rfl
    have frame := changed.frame
    have u_point : u.holdPoint = onward := by
      rw [State.holdPoint_eq, show u.queue = rest by rw [frame], show u.feed = s.feed by rw [frame]; rfl]
      rfl
    have u_none : u.shaft.active = none := by rw [frame]; exact none_
    have u_calm : u.shaft.stopReq ≠ .quick := by rw [frame]; exact calm
    have stop {reason : StopReason} (eq : u.afterChange = u.enterStopped reason) {run : Run}
        (at_run : ({ u.run with state := .stopped, pendingStop := false, reason := reason, resume := onward } : Run) =
          { run with state := .stopped, pendingStop := false }) :
        held run u.afterChange.settle ∧ onHold u.afterChange.settle := by
      have quiet : u.afterChange.settle = (u.enterStopped reason).arbitrate := by
        rw [eq]
        exact State.settle_of_not_sewing _ rfl u_none
      rw [quiet]
      refine ⟨⟨?_, ?_, ?_, ?_, ?_⟩, State.granted_of ?_ ?_⟩
      · rw [State.arbitrate_run, State.enterStopped_eq, u_point]
        exact at_run
      · rw [State.arbitrate_queue]; rfl
      · rw [State.arbitrate_feed]; rfl
      · rw [State.arbitrate_shaft, State.enterStopped_eq, frame]; rfl
      · rw [State.arbitrate_link]; rfl
      · rw [State.enterStopped_eq, State.idledBurst, frame]; rfl
      · rw [frame]; rfl
    have stop_pending {reason : StopReason} {run : Run} (pending : u.run.pendingStop = true)
        (asked : u.run.reason = reason)
        (at_run : ({ u.run with state := .stopped, pendingStop := false, reason := reason, resume := onward } : Run) =
          { run with state := .stopped, pendingStop := false }) :
        held run u.afterChange.settle ∧ onHold u.afterChange.settle :=
      stop (by rw [State.afterChange, if_pos pending, asked]) at_run
    have on_pending (pending : s.run.pendingStop = true) := stop_pending (run := { done with resume := onward })
      (reason := s.run.reason) (by rw [run_pending pending]; exact pending) (by rw [run_pending pending])
      (by rw [run_pending pending])
    have on_lost (free : s.run.pendingStop = false) (drops : lost) (policy : s.config.breakPolicy = .stop) :=
      stop_pending (run := { done with resume := onward, reason := .breakStop }) (reason := .breakStop)
        (by rw [run_lost free drops policy]) (by rw [run_lost free drops policy]) (by rw [run_lost free drops policy])
    have on_none (free : s.run.pendingStop = false) (stays : ¬(lost ∧ s.config.breakPolicy = .stop)) (nobody : noneLeft) :=
      stop_pending (run := { done with resume := onward, reason := .noHeads }) (reason := .noHeads)
        (by rw [run_none free stays nobody]) (by rw [run_none free stays nobody]) (by rw [run_none free stays nobody])
    have u_auto : u.config.autoResume = s.config.autoResume := by rw [frame]; rfl
    have on_manual (onwards : goesOn) (manual : s.config.autoResume = false) :=
      stop (reason := .colourDone) (run := { done with resume := onward, reason := .colourDone })
        (by rw [State.afterChange, if_neg (by rw [run_on onwards]; simp [done, onwards.1]),
          if_neg (by simp [u_auto, manual])]) (by rw [run_on onwards])
    have on_running (onwards : goesOn) (auto : s.config.autoResume = true) :
        u.afterChange = { u with run := { done with state := .running } } := by
      rw [State.afterChange, if_neg (by rw [run_on onwards]; simp [done, onwards.1]), if_pos (u_auto.trans auto),
        run_on onwards]
    have u_pending (halts : ¬goesOn) : u.run.pendingStop = true := by
      by_cases pending : s.run.pendingStop = true
      · rw [run_pending pending]; exact pending
      · have free := Bool.eq_false_iff.2 pending
        by_cases drops : lost ∧ s.config.breakPolicy = .stop
        · rw [run_lost free drops.1 drops.2]
        · rw [run_none free drops (not_not.1 fun somebody => halts ⟨free, drops, somebody⟩)]
    have whole (ends : ¬goesOn ∨ s.config.autoResume = false) : ∃ reason, u.afterChange = u.enterStopped reason := by
      by_cases onwards : goesOn
      · refine ⟨.colourDone, ?_⟩
        rw [State.afterChange, if_neg (by rw [run_on onwards]; simp [done, onwards.1]),
          if_neg (by simp [u_auto, ends.resolve_left (not_not.2 onwards)])]
      · exact ⟨_, if_pos (u_pending onwards)⟩
    have running_still (onwards : goesOn) (auto : s.config.autoResume = true) (rests : rest = [] ∨ ¬tdc) :
        u.afterChange.whenStill = u.afterChange := by
      rw [on_running onwards auto]
      by_cases empty : rest = []
      · rw [State.whenStill_of_calm (by exact u_none) (by exact u_calm)]
        exact State.dealHeads_of_empty (s := { u with run := { done with state := .running } }) (by rw [← empty]; exact congrArg State.queue frame) (by exact onwards.1) _
      · refine State.whenStill_of_unreadable (by exact u_none) (by exact u_calm) (Bool.eq_false_iff.2 fun readable => ?_)
        obtain ⟨-, -, still, atTdc, -, unmoved⟩ := State.headReadable_iff.1 readable
        rw [frame] at still atTdc unmoved
        exact rests.elim empty (· ⟨still, atTdc, unmoved⟩)
    have quiet_shape (quiet : ¬goesOn ∨ s.config.autoResume = false ∨ rest = [] ∨ ¬tdc) :
        u.afterChange.settle = u.afterChange.arbitrate := by
      by_cases ends : ¬goesOn ∨ s.config.autoResume = false
      · obtain ⟨reason, eq⟩ := whole ends
        rw [eq]
        exact State.settle_of_not_sewing _ rfl u_none
      · obtain ⟨onwards, auto⟩ := not_or.1 ends
        rw [State.settle, running_still (not_not.1 onwards) (by simpa using auto)
          ((quiet.resolve_left onwards).resolve_left auto)]
    have opened_u : opened u := fun h on unready state =>
      changed.opened h on (Bool.eq_false_iff.2 (mt (ready_iff h).1 unready))
        (state.imp_left (HeadState.isSound_iff _).2)
    have opened_of {t : State} (conditions : ∀ h, (after h).state.isBroken = true →
        t.entries (.threadBreak h) = u.entries (.threadBreak h)) : opened t := fun h on unready state => by
      obtain ⟨c, found, rest⟩ := opened_u h on unready state
      have broken : (after h).state.isBroken = true := by
        simp only [after, if_neg (show ¬s.enabled h = false by simp [on])]
        rcases state with (sewing | ⟨m, waiting⟩) | ⟨m, broken⟩
        · simp only [sewing, if_neg unready]; rfl
        · simp only [waiting, if_neg unready]; rfl
        · simp only [broken, if_neg unready]; rfl
      exact ⟨c, (State.condition?_of_entries (conditions h broken)).trans found, rest⟩
    have readable (at_ : tdc) : State.headReadable { u with run := { done with state := .running } } = true := by
      obtain ⟨still, atTdc, unmoved⟩ := at_
      refine State.headReadable_iff.2 ⟨rfl, u_calm, ?_, ?_, u_none, ?_⟩
      all_goals rw [frame]
      · exact still
      · exact atTdc
      · exact unmoved
    refine ⟨_, runs, fun ends => ?_, fun pending => (on_pending pending).1,
      fun free drops policy => (on_lost free drops policy).1, fun free stays nobody => (on_none free stays nobody).1,
      fun onwards manual => (on_manual onwards manual).1, fun onwards auto rests => ?_, fun quiet => ?_,
      fun x rest' onwards auto tdc queue => ⟨fun pause => ?_, fun plain within turns line => ?_⟩⟩
    · obtain ⟨reason, eq⟩ := whole ends
      exact (stop (run := { u.run with reason := reason, resume := onward }) eq rfl).2
    · rw [State.settle, running_still onwards auto rests, on_running onwards auto]
      refine ⟨?_, ?_, ?_, State.granted_of ?_ ?_⟩
      · rw [State.arbitrate_run]
      · rw [State.arbitrate_queue, frame]
      · rw [State.arbitrate_shaft, frame]; rfl
      · rw [frame]; rfl
      · rw [frame]; rfl
    · have after_u {β : Type} (f : State → β) (stops : ∀ x reason, f (State.enterStopped reason x) = f x)
          (goes : ∀ x : State, f { x with run := { x.run with state := .running } } = f x)
          (grants : ∀ x : State, f x.arbitrate = f x) : f u.afterChange.settle = f u := by
        rw [quiet_shape quiet, grants, State.afterChange_keeps f stops goes]
      have conditions : u.afterChange.settle.conditions = u.conditions :=
        after_u State.conditions (fun _ _ => rfl) (fun _ => rfl) State.arbitrate_conditions
      have causes (k : Key) : u.afterChange.settle.causeOpen k = u.causeOpen k := by
        unfold State.causeOpen; rw [conditions]
      refine ⟨⟨?_, ?_, ?_, ?_, ?_, ?_, ?_⟩, opened_of fun h _ => ?_, fun h => ?_, fun sound => ⟨?_, fun c found at_ => ?_⟩⟩
      · rw [after_u State.carriage (fun _ _ => rfl) (fun _ => rfl) State.arbitrate_carriage, frame]; rfl
      · rw [after_u State.frame (fun _ _ => rfl) (fun _ => rfl) State.arbitrate_frame, frame]; rfl
      · rw [after_u State.config (fun _ _ => rfl) (fun _ => rfl) State.arbitrate_config, frame]; rfl
      · rw [after_u State.store (fun _ _ => rfl) (fun _ => rfl) State.arbitrate_store, frame]; rfl
      · rw [after_u State.designs (fun _ _ => rfl) (fun _ => rfl) State.arbitrate_designs, frame]; rfl
      · rw [after_u State.needles (fun _ _ => rfl) (fun _ => rfl) State.arbitrate_needles, frame]; rfl
      · rw [after_u State.enable (fun _ _ => rfl) (fun _ => rfl) State.arbitrate_enable, frame]; rfl
      · unfold State.entries; rw [conditions]
      · rw [after_u State.heads (fun _ _ => rfl) (fun _ => rfl) State.arbitrate_heads, record]
      · rw [causes]
        exact (changed.closed sound).1
      · rw [causes]
        exact (changed.closed sound).2 c found at_
    · have holds := State.whenStill_pause (readable tdc) ((congrArg State.queue frame).trans queue) pause
      rw [State.settle, on_running onwards auto, holds]
      refine ⟨⟨?_, ?_, ?_, ?_, ?_⟩, ⟨?_, ?_, ?_, ?_, ?_, ?_, ?_⟩, opened_of fun h _ => ?_, State.granted_of ?_ ?_,
        fun h => ?_⟩
      · rw [State.arbitrate_run, State.enterStopped_eq, State.holdPoint_eq, frame]; rfl
      · rw [State.arbitrate_queue]; rfl
      · rw [State.arbitrate_feed]; rfl
      · rw [State.arbitrate_shaft, State.enterStopped_eq, frame]; rfl
      · rw [State.arbitrate_link]; rfl
      · rw [State.arbitrate_carriage, State.enterStopped_eq, frame]; rfl
      · rw [State.arbitrate_frame, State.enterStopped_eq, frame]; rfl
      · rw [State.arbitrate_config, State.enterStopped_eq, frame]; rfl
      · rw [State.arbitrate_store, State.enterStopped_eq, frame]; rfl
      · rw [State.arbitrate_designs, State.enterStopped_eq, frame]; rfl
      · rw [State.arbitrate_needles, State.enterStopped_eq, frame]; rfl
      · rw [State.arbitrate_enable, State.enterStopped_eq, frame]; rfl
      · unfold State.entries
        rw [State.arbitrate_conditions]
        rfl
      · rw [State.enterStopped_eq, State.idledBurst, frame]; rfl
      · rw [frame]; rfl
      · rw [State.arbitrate_heads]
        exact record h
    · have ready : State.mayBeginAtRest { u with run := { done with state := .running } } = true := by
        refine State.mayBeginAtRest_iff.2 ⟨rfl, ?_, ?_⟩
        all_goals rw [frame]
        · rfl
        · exact line
      have begins := State.whenStill_record_begins (readable tdc) ((congrArg State.queue frame).trans queue) plain within
        onwards.1 ready turns
      rw [State.settle, on_running onwards auto, begins]
      refine ⟨opened_of fun h broken => ?_, ?_⟩
      · have kept := State.beginPoint_broken x rest'
          (State.fromRest { u with run := { done with state := .running } }) (h := h) (by
            rw [← record h] at broken
            exact broken)
        unfold State.entries at kept ⊢
        rw [State.arbitrate_conditions, kept]
        rfl
      · have begun := State.beginPoint_begun x rest' (State.fromRest { u with run := { done with state := .running } })
        have runs_on : (State.fromRest { u with run := { done with state := .running } }).run =
          { done with state := .running } := rfl
        generalize at_rest : State.fromRest { u with run := { done with state := .running } } = v at begun runs_on
        have heads (h : Head) : v.heads.get h = after h := by rw [← at_rest]; exact record h
        rw [State.fromRest, frame] at at_rest
        refine State.begun_congr (b := v) runs_on ?_ (fun h => ?_) ?_ ?_ ?_ ?_ ?_ ?_ ?_ ?_ begun
        · rw [← at_rest]; rfl
        · rw [Table.get_mapIdx]
          exact heads h
        all_goals
          rw [← at_rest]
          rfl
  · have runs := exec_settleEnd_wrong changing settling off
    rw [State.settle_of_not_sewing _ (by rfl) (by exact none_)] at runs
    exact ⟨_, runs, granted_failed (fails _ n), State.granted_of rfl rfl⟩
  · exact ⟨_, exec_stepTimeout_changing changing steps, fails _ n, rfl, rfl⟩
  · rw [exec_stopLineActive off, State.stopRun_changing (s := { s with stopLine := true }) changing,
      Run.hold_of_free (by exact free), State.settle_of_not_sewing _ (by exact unsewn) (by exact none_)]
    exact ⟨_, rfl, rfl⟩
  · rw [exec_stopLineActive off, State.stopRun_changing (s := { s with stopLine := true }) changing,
      Run.hold_of_pending (by exact pending), State.settle_of_not_sewing _ (by exact unsewn) (by exact none_)]
    exact ⟨_, rfl, rfl⟩
  · refine ⟨_, stops served, ?_⟩
    rw [State.stopRun_changing changing, Run.hold_of_free free, State.settle_of_not_sewing _ (by exact unsewn) (by exact none_)]
    rfl
  · refine ⟨_, stops served, ?_⟩
    rw [State.stopRun_changing changing, Run.hold_of_pending pending, State.settle_of_not_sewing _ (by exact unsewn) (by exact none_)]
    rfl
  · have runs := quick served
    have cut : s.quickStopRun =
        State.abandonChange { s with run := { s.run with pendingStop := true, reason := .quickStop } } := by
      simp only [State.quickStopRun, changing, State.quickStopChange, settling]
    rw [cut, State.settle_of_not_sewing _ (by rfl) (by exact none_)] at runs
    refine ⟨_, runs, granted_abandoned ?_ (State.granted_of rfl rfl)⟩
    refine ⟨⟨?_, rfl, rfl, rfl, Link.place_runChange ..⟩, ⟨rfl, rfl, rfl, rfl, rfl, rfl, rfl⟩, rfl⟩
    change (State.abandonChange _).run = _
    rw [State.abandonChange, State.enterStopped_eq, State.holdPoint_of_queue (by exact queue)]
  · refine ⟨_, quick served, ?_⟩
    have cut : s.quickStopRun = { s with run := { s.run with pendingStop := true, reason := .quickStop } } := by
      simp only [State.quickStopRun, changing, State.quickStopChange, steps]
    rw [cut, State.settle_of_not_sewing _ (by exact unsewn) (by exact none_)]
    rfl
  · have coded : s.coded code = { s with carriage := { s.carriage with code := code, last := some q } } := by
      rw [State.coded, needleAt_succ at_]
      rfl
    have runs := exec_carriageCodeChange fresh
    have ends : (s.coded code).stepDone q n = (s.coded code).abandonChange :=
      if_pos (by simp [State.quickInChange, State.coded, changing, pending, quick])
    rw [State.codeChange_expected steps (needleAt_succ at_), ends, coded,
      State.settle_of_not_sewing _ (by rfl) (by exact none_)] at runs
    refine ⟨_, runs, ⟨?_, ?_, ?_, ?_, ?_⟩, State.granted_of rfl rfl, ?_, ?_⟩
    · rw [State.arbitrate_run, State.abandonChange, State.enterStopped_eq, State.holdPoint_of_queue (by exact queue)]
    · rw [State.arbitrate_queue]; rfl
    · rw [State.arbitrate_feed]; rfl
    · rw [State.arbitrate_shaft]; rfl
    · rw [State.arbitrate_link]; rfl
    · rw [State.arbitrate_carriage]; rfl
    · rw [State.arbitrate_heads]; rfl
  · have turned := State.turnTo_stepping_changing changing steps rests
    obtain ⟨t, reached, runs, ⟨made, u, crossed, shape⟩, at_⟩ := exec_turned (s := s) (i := .encoderCountChange count)
      (fun count made => by rw [turned, State.bandCheck, Shaft.bandCheck_turning _ (by rfl)]; exact none_)
      (fun count made => by rw [turned]; rfl)
      (fun count made => by rw [turned, State.bandCheck, Shaft.bandCheck_turning _ (by rfl)]; rfl)
      (.inl ⟨count, rfl, fresh⟩)
    obtain rfl := at_ count rfl
    rw [turned] at crossed
    have kept : t.run = u.run ∧ t.carriage = u.carriage ∧ t.shaft = u.shaft ∧ t.needles = u.needles ∧
        t.queue = u.queue ∧ t.feed = u.feed ∧ t.link = u.link ∧ t.conditions = u.conditions := by
      rcases shape with rfl | rfl <;> simp
    obtain ⟨t_run, t_carriage, t_shaft, t_needles, t_queue, t_feed, t_link, t_conditions⟩ := kept
    refine ⟨t, runs, ?_, ?_, ?_, ?_, ?_, ?_, ?_, ?_, ?_, ?_, ?_⟩
    · rw [t_run, crossed.frame, State.bandCheck, State.enterStopped_eq, State.holdPoint_of_queue (by exact queue)]; rfl
    · rw [t_queue, crossed.frame]; rfl
    · rw [t_feed, crossed.frame]; rfl
    · rw [t_link, crossed.frame]; rfl
    · rw [t_carriage, crossed.frame]; rfl
    · rw [t_needles, crossed.frame]; rfl
    · rw [t_shaft]
      refine crossed.still ?_
      rw [State.bandCheck, Shaft.bandCheck_turning _ (by rfl)]
      exact still
    · rw [t_shaft, crossed.angle, State.bandCheck, Shaft.bandCheck_turning _ (by rfl)]; rfl
    · rw [t_shaft, crossed.turns, State.bandCheck, Shaft.bandCheck_turning _ (by rfl)]; rfl
    · rw [t_shaft, crossed.stopReq, State.bandCheck, Shaft.bandCheck_turning _ (by rfl)]; rfl
    · have cause := State.condition?_carriageCause .shaftMoved (some n)
        { s with shaft := { s.shaft with angle := reached, atRest := false, crossed := made } }
      rw [State.colourPosition_of_changing (by exact changing) (by exact queue)] at cause
      have same : t.condition? .carriageFault = (State.carriageCause .shaftMoved (some n) { s with
          shaft := { s.shaft with angle := reached, atRest := false, crossed := made } }).condition? .carriageFault := by
        refine State.condition?_of_entries (Eq.trans ?_ crossed.fault)
        unfold State.entries
        rw [t_conditions]
      rw [same]
      exact cause

end Sys2Proof.Proofs
end

section
/-! PROOFS. START and RESUME: the heads placed, the residual move, and what follows (R89, R105, R147, R157, R158, R162,
R163). -/

namespace Sys2Proof.Machine

variable {s t x : State} {h : Head} {position : Option Position} {m : Nat}

/-! ## The placement of one head (R147) -/

theorem State.placeHead_eq (position : Option Position) (h : Head) (s : State) : s.placeHead position h = { s with
    heads := (s.placeHead position h).heads, conditions := (s.placeHead position h).conditions
    changes := (s.placeHead position h).changes } := by
  unfold State.placeHead
  dsimp only
  split <;> split <;> rfl

theorem State.placeHead_onHead (position : Option Position) (s : State) (h : Head) :
    s.onHead h (s.placeHead position h) := by
  have drops (r : HeadRecord) : s.onHead h ((s.setHead h r).openThreadBreak h .needleNotReady position) :=
    (State.onHead.setHead r s).trans (State.onHead.openThreadBreak _ _ _)
  unfold State.placeHead
  dsimp only
  split
  · split
    case h_5 => exact State.onHead.refl h s
    all_goals exact State.onHead.setHead _ s
  · split
    case h_1 => exact State.onHead.setHead _ s
    case h_5 => exact State.onHead.refl h s
    all_goals exact drops _

theorem State.placeHead_seesSame (position : Option Position) (e : s.seesSame h t)
    (frontier : s.run.frontier = t.run.frontier) :
    (s.placeHead position h).seesSame h (t.placeHead position h) := by
  unfold State.placeHead
  rw [e.record, e.readyNow, e.ordinal, frontier]
  dsimp only
  split
  · split
    case h_5 => exact e
    all_goals exact e.setHead _
  · split
    case h_1 => exact e.setHead _
    case h_5 => exact e
    all_goals exact (e.setHead _).openThreadBreak _ _

/-- A head that stands ready is SEWING or WAITING behind its placement (R147). -/
theorem State.placeHead_sound (ready : s.readyNow h = true) (on : (s.heads.get h).state ≠ .off) :
    ((s.placeHead position h).heads.get h).state.isSound = true := by
  have either {p : Prop} [Decidable p] (a b : HeadRecord) (sa : a.state.isSound = true) (sb : b.state.isSound = true) :
      (((s.setHead h (if p then a else b)).heads.get h).state.isSound) = true := by
    rw [show (s.setHead h (if p then a else b)).heads.get h = if p then a else b from Table.get_set_self ..]
    split
    · exact sa
    · exact sb
  cases state : (s.heads.get h).state
  case off => exact absurd state on
  case broken m => rw [State.placeHead_ready_broken ready state]; exact either _ _ rfl rfl
  case waiting m => rw [State.placeHead_ready_waiting ready state]; exact either _ _ rfl rfl
  case idle => rw [State.placeHead_ready_sound ready (.inl state)]; exact either _ _ rfl rfl
  case sewing => rw [State.placeHead_ready_sound ready (.inr state)]; exact either _ _ rfl rfl

/-- A head that does not stand ready is OFF or BROKEN behind its placement (R147). -/
theorem State.placeHead_unsound (unready : s.readyNow h = false) :
    ((s.placeHead position h).heads.get h).state.isSound = false := by
  have placed (r : HeadRecord) (m : Nat) : ((s.setHead h (r.toBroken m)).heads.get h).state.isSound = false := by
    rw [show (s.setHead h (r.toBroken m)).heads.get h = r.toBroken m from Table.get_set_self ..]
    rfl
  cases state : (s.heads.get h).state
  case off => rw [State.placeHead_off state, state]; rfl
  case broken m => rw [State.placeHead_unready_broken unready state]; exact placed _ _
  case waiting m => rw [State.placeHead_unready_waiting unready state]; exact placed _ _
  case idle => rw [State.placeHead_unready_sound unready (.inl state)]; exact placed _ _
  case sewing => rw [State.placeHead_unready_sound unready (.inr state)]; exact placed _ _

/-! ## Every head placed -/

/-- The heads placed, before the tests (R147). -/
def State.placeFold (position : Option Position) (s : State) : State := s.eachEnabled (State.placeHead position)

theorem State.placeHeads_def (position : Option Position) (s : State) :
    s.placeHeads position = (s.placeFold position).testThreadBreaks.noHeadsTest := rfl

/-- `t` differs from `s` in the heads and the condition table alone. -/
def State.headed (s t : State) : Prop :=
  t = { s with heads := t.heads, conditions := t.conditions, changes := t.changes }

theorem State.headed_trans {u : State} (h1 : s.headed t) (h2 : t.headed u) : s.headed u := by
  rw [State.headed, h1] at h2
  exact h2

theorem State.placeFold_headed (position : Option Position) (s : State) : s.headed (s.placeFold position) := by
  unfold State.placeFold State.eachEnabled
  refine foldl_related (R := State.headed) (fun _ => rfl) State.headed_trans (fun t h => ?_) allHeads s
  split
  · exact t.placeHead_eq position h
  · rfl

/-- The record of a head behind the placement (R147). -/
def State.placedRecord (position : Option Position) (s : State) (h : Head) : HeadRecord :=
  if s.enabled h then (s.placeHead position h).heads.get h else s.heads.get h

theorem State.placeFold_view (position : Option Position) (s : State) (h : Head) : (s.placeFold position).headView h =
    if s.enabled h then (s.placeHead position h).headView h else s.headView h :=
  State.eachEnabled_view (fun s h => State.placeHead_onHead position s h)
    (fun same frontier => State.placeHead_seesSame position same frontier) s h

/-- No head is SEWING or WAITING behind the placement (R144). -/
def State.noneAfterPlace (position : Option Position) (s : State) : Prop :=
  ∀ h, (s.placedRecord position h).state.isSound = false

/-- The heads placed at START and RESUME, and the tests (R144, R147, R151). -/
structure State.placedTo (position : Option Position) (s t : State) : Prop where
  frame : t = { s with heads := t.heads, conditions := t.conditions, changes := t.changes, run := t.run, shaft := t.shaft }
  record : ∀ h, t.heads.get h = s.placedRecord position h
  opened : ∀ h, s.enabled h = true → (t.heads.get h).state.isBroken = true →
    t.entries (.threadBreak h) = (s.placeHead position h).entries (.threadBreak h)
  none_ : s.noneAfterPlace position →
    t.shaft = { s.shaft with stopReq := .controlled } ∧
    t.run = { s.run with state := .stopping, pendingStop := true, reason := .noHeads }
  left_ : ¬s.noneAfterPlace position → t.shaft = s.shaft ∧ t.run = s.run

theorem State.placeHeads_placedTo (running : s.run.state = .running) (free : s.shaft.stopReq = .none)
    (position : Option Position) : s.placedTo position (s.placeHeads position) := by
  have frame : _ = _ := State.placeFold_headed position s
  have view := s.placeFold_view position
  rw [State.placeHeads_def]
  generalize s.placeFold position = x at frame view
  have record (h : Head) : x.heads.get h = s.placedRecord position h := by
    unfold State.placedRecord
    by_cases on : s.enabled h = true
    · rw [if_pos on]
      exact State.headView_heads ((view h).trans (if_pos on))
    · rw [if_neg on]
      exact State.headView_heads ((view h).trans (if_neg on))
  have tested := x.testThreadBreaks_eq
  have breaks := x.entries_testThreadBreaks
  generalize x.testThreadBreaks = y at tested breaks
  have heads : y.heads = x.heads := by rw [tested]
  have shape : ∃ run shaft, y.noHeadsTest = { y with run := run, shaft := shaft } ∧
      (s.noneAfterPlace position → shaft = { s.shaft with stopReq := .controlled } ∧
        run = { s.run with state := .stopping, pendingStop := true, reason := .noHeads }) ∧
      (¬s.noneAfterPlace position → shaft = s.shaft ∧ run = s.run) := by
    have anySound : y.anySound = true ↔ ¬s.noneAfterPlace position := by
      simp [State.anySound_iff, State.noneAfterPlace, heads, record]
    have kept : y.run = s.run ∧ y.shaft = s.shaft := by rw [tested, frame]; exact ⟨rfl, rfl⟩
    by_cases none_ : s.noneAfterPlace position
    · have nobody : y.anySound = false := Bool.eq_false_iff.2 (mt anySound.1 (not_not.2 none_))
      rw [State.noHeadsTest_none nobody, State.requestStop_running (kept.1 ▸ running) (kept.2 ▸ free), kept.1, kept.2]
      exact ⟨_, _, rfl, fun _ => ⟨rfl, rfl⟩, fun some_ => absurd none_ some_⟩
    · rw [State.noHeadsTest_sound (anySound.2 none_)]
      exact ⟨_, _, rfl, fun h => absurd h none_, fun _ => ⟨kept.2, kept.1⟩⟩
  obtain ⟨run, shaft, shape, nobody, somebody⟩ := shape
  rw [shape]
  refine ⟨?_, fun h => (congrArg (Table.get · h) heads).trans (record h), fun h on broken => ?_,
    nobody, somebody⟩
  · rw [tested, frame]
  · have kept := breaks h
    have isBroken : (x.heads.get h).state.isBroken = true := by rw [← heads]; exact broken
    rw [isBroken, Bool.true_or, if_pos rfl] at kept
    exact kept.trans (State.entries_of_view ((view h).trans (if_pos on)) (by simp))

/-! ## An empty queue at rest -/

/-- With an empty queue and no stop pending nothing follows (R102). -/
theorem State.whenStill_empty_free (none_ : s.shaft.active = none) (calm : s.shaft.stopReq ≠ .quick)
    (empty : s.queue = []) (free : s.run.pendingStop = false) : s.whenStill = s := by
  rw [State.whenStill_of_calm none_ calm, State.dealHeads_of_empty empty free]

/-- With an empty queue a pending stop is taken up, or nothing follows (R95, R105). -/
theorem State.whenStill_empty (none_ : s.shaft.active = none) (calm : s.shaft.stopReq ≠ .quick) (empty : s.queue = []) :
    s.whenStill = s ∨ s.whenStill = s.enterStopped s.run.reason := by
  by_cases free : s.run.pendingStop = true
  · by_cases readable : s.headReadable = true
    · exact .inr (State.whenStill_empty_held readable empty free)
    · exact .inl (State.whenStill_of_unreadable none_ calm (Bool.eq_false_iff.2 readable))
  · exact .inl (State.whenStill_empty_free none_ calm empty (Bool.eq_false_iff.2 free))

/-! ## The residual move -/

/-- The frame as the residual move of a halted run leaves it (R89). -/
def FrameUnit.resumed (cfg : Configuration) (f : FrameUnit) : FrameUnit :=
  match f.residual with
  | none => f
  | some r => f.beginMove cfg .residual r

theorem State.beginResidual_eq (s : State) : s.beginResidual = { s with frame := s.frame.resumed s.config } := by
  unfold State.beginResidual FrameUnit.resumed
  cases s.frame.residual <;> rfl

theorem FrameUnit.resumed_none {f : FrameUnit} (none_ : f.residual = none) (cfg : Configuration) : f.resumed cfg = f := by
  simp only [FrameUnit.resumed, none_]

theorem FrameUnit.resumed_some {f : FrameUnit} {r : Point} (some_ : f.residual = some r) (cfg : Configuration) :
    f.resumed cfg = f.beginMove cfg .residual r := by
  simp only [FrameUnit.resumed, some_]

/-! ## What follows the placement -/

/-- `t` is what a run set up in `a` becomes behind the placement `u` of its heads, with the run, the feed, the shaft, the
frame, the link and the burst given. -/
def State.settlesAs (a u : State) (run : Run) (feed : Feed) (shaft : Shaft) (frame : FrameUnit) (link : Link)
    (burst : Option Burst) (t : State) : Prop :=
  t = { a with
    run := run, feed := feed, shaft := shaft, frame := frame, link := link, queue := []
    heads := u.heads, conditions := u.conditions, changes := u.changes
    burst := t.burst, lastGranted := t.lastGranted } ∧ State.granted burst a t

section Placed

variable {a u : State} {g : FrameUnit} {l : Link} (puts : a.placedTo position u) (empty : a.queue = [])
  (none_ : a.shaft.active = none) (unasked : a.shaft.stopReq = .none) (free : a.run.pendingStop = false)
include puts empty

include none_ unasked free in
/-- With a head SEWING or WAITING the run goes on (R158, R163). -/
theorem State.placedTo.goesOn (some_ : ¬a.noneAfterPlace position) : a.settlesAs u a.run a.feed a.shaft g l a.burst
    (State.settle { u with frame := g, link := l }) := by
  obtain ⟨shaft, run⟩ := puts.left_ some_
  have frame := puts.frame
  have queue : u.queue = [] := by rw [frame]; exact empty
  have rests : State.whenStill { u with frame := g, link := l } = { u with frame := g, link := l } :=
    State.whenStill_empty_free (by rw [shaft]; exact none_) (by rw [shaft]; simp [unasked]) queue (by rw [run]; exact free)
  rw [State.settle, rests]
  refine ⟨?_, State.granted_of (by rw [frame]) (by rw [frame])⟩
  rw [State.arbitrate_eq]
  dsimp only
  rw [← queue, ← shaft, ← run, frame]

variable (nobody : a.noneAfterPlace position)
include nobody

/-- With none a controlled stop waits for the residual move (R89, R105). -/
theorem State.placedTo.waits (moving : g.state.isMoving = true) : a.settlesAs u
    { a.run with state := .stopping, pendingStop := true, reason := .noHeads } a.feed
    { a.shaft with stopReq := .controlled } g l a.burst (State.settle { u with frame := g, link := l }) := by
  obtain ⟨shaft, run⟩ := puts.none_ nobody
  have frame := puts.frame
  have queue : u.queue = [] := by rw [frame]; exact empty
  rw [State.settle, State.whenStill_moving (by exact moving)]
  refine ⟨?_, State.granted_of (by rw [frame]) (by rw [frame])⟩
  rw [State.arbitrate_eq]
  dsimp only
  rw [← queue, ← shaft, ← run, frame]

include none_ unasked free in
/-- With none, and the frame at rest, it is taken at once (R105). -/
theorem State.placedTo.held (still : a.shaft.state = .still) (tdc : a.atTdc = true) (unmoved : g.state.isMoving = false) :
    a.settlesAs u { a.run with state := .stopped, reason := .noHeads, resume := some a.feed.fetch }
      { a.feed with activity := .idle, blocked := false } a.shaft g { l with runChange := true } a.idledBurst
      (State.settle { u with frame := g, link := l }) := by
  obtain ⟨shaft, run⟩ := puts.none_ nobody
  have frame := puts.frame
  have queue : u.queue = [] := by rw [frame]; exact empty
  have feed : u.feed = a.feed := by rw [frame]
  have readable : State.headReadable { u with frame := g, link := l } = true := by
    refine State.headReadable_iff.2 ⟨by simp [State.sewing, run], by simp [shaft], by rw [shaft]; exact still, ?_,
      by rw [shaft]; exact none_, unmoved⟩
    rw [frame, shaft]
    exact tdc
  have point : State.holdPoint { u with frame := g, link := l } = some a.feed.fetch := by
    rw [← feed]
    exact State.holdPoint_of_empty queue
  rw [State.settle, State.whenStill_empty_held readable queue (by simp [run]), State.enterStopped_eq, point]
  refine ⟨?_, State.granted_of (by rw [frame]; rfl) (by rw [frame])⟩
  rw [State.arbitrate_eq]
  dsimp only
  rw [feed, shaft, run, ← free, ← unasked, frame]

include none_ in
/-- With none the run goes on to the residual move, or it is held (R89, R105). -/
theorem State.placedTo.either : ∃ run feed shaft link burst,
    a.settlesAs u run feed shaft g link burst (State.settle { u with frame := g, link := l }) := by
  obtain ⟨shaft, run⟩ := puts.none_ nobody
  have frame := puts.frame
  have queue : u.queue = [] := by rw [frame]; exact empty
  have either := State.whenStill_empty (s := { u with frame := g, link := l }) (by rw [shaft]; exact none_) (by simp [shaft])
    queue
  rw [State.settle]
  generalize State.whenStill { u with frame := g, link := l } = x at either ⊢
  refine ⟨x.run, x.feed, x.shaft, x.link, x.burst, ?_, State.granted_of rfl ?_⟩
  · rw [State.arbitrate_eq]
    dsimp only
    rcases either with rfl | rfl
    · dsimp only
      rw [← queue, frame]
    · rw [State.enterStopped_eq]
      dsimp only
      rw [frame]
  · rcases either with rfl | rfl
    · rw [frame]
    · rw [frame]
      rfl

end Placed

end Sys2Proof.Machine

namespace Sys2Proof.Proofs
open Sys2Proof.Machine

/-- Settles O46, with the placement of the heads (`placedTo`) and what settles behind it (`settlesAs`). -/
theorem startAndResume : Obligations.StartAndResume := by
  intro s served line tdc empty unasked free none_ placed noneSound same onHold rested refetch
  let begunFrom : State → Prop := fun a => a = { s with run := a.run, shaft := a.shaft, feed := a.feed }
  have reads {a : State} (begins : begunFrom a) : a.heads = s.heads ∧ (∀ h, a.enabled h = s.enabled h) ∧
      a.needles = s.needles := by
    refine ⟨by rw [begins], fun h => ?_, by rw [begins]⟩
    rw [begins]
    rfl
  have places {a t u : State} {n : Needle} {p f : Nat} {position : Option Position} (putTo : a.placedTo position u)
      (begins : begunFrom a) (needle : a.run.needle = some n) (ordinal : a.run.ordinal = p)
      (frontier : a.run.frontier = f) (t_heads : t.heads = u.heads) (t_conditions : t.conditions = u.conditions) :
      placed n p f position t := by
    obtain ⟨heads, enabled, needles⟩ := reads begins
    have record (h : Head) : t.heads.get h = a.placedRecord position h := by rw [t_heads, putTo.record]
    refine ⟨fun h off => ?_, fun h on => ?_⟩
    · rw [record, State.placedRecord, if_neg (by simp [enabled, off]), heads]
    · intro r beyond sews waits drops
      have own : a.heads.get h = r := by rw [heads]
      have at_ : t.heads.get h = (a.placeHead position h).heads.get h := by
        rw [record, State.placedRecord, if_pos ((enabled h).trans on)]
      have readyNow : a.readyNow h = decide ((s.needles.get n).perHead.get h = .ready) := by
        simp only [State.readyNow, needle, State.needleState, needles]
      have put {x : HeadRecord} (eq : a.placeHead position h = a.setHead h x) : t.heads.get h = x := by
        rw [at_, eq]
        exact Table.get_set_self ..
      have turn {m : Nat} (eq : a.placeHead position h = a.setHead h
          (if m ≤ a.run.ordinal + 1 then (a.heads.get h).toSewing else (a.heads.get h).toWaiting m)) :
          (m ≤ p + 1 → sews) ∧ (p + 1 < m → waits m) := by
        have got := put eq
        rw [ordinal, own] at got
        exact ⟨fun due => got.trans (if_pos due), fun early => got.trans (if_neg (Nat.not_le.2 early))⟩
      have dropped {m : Nat} (eq : a.placeHead position h =
          (a.setHead h ((a.heads.get h).toBroken m)).openThreadBreak h .needleNotReady position) : drops m := by
        have got : t.heads.get h = (a.heads.get h).toBroken m := by
          rw [at_, eq]
          exact Table.get_set_self ..
        obtain ⟨c, found, opened, detail, c_needle, c_ordinal, c_position⟩ :=
          State.condition?_openThreadBreak (a.setHead h ((a.heads.get h).toBroken m)) h .needleNotReady position
        have entries := putTo.opened h ((enabled h).trans on) (by rw [← t_heads, got]; rfl)
        rw [eq] at entries
        have same_entries : t.entries (.threadBreak h) = u.entries (.threadBreak h) := by
          unfold State.entries
          rw [t_conditions]
        refine ⟨got.trans (by rw [own]; rfl), c, ?_, opened, detail, c_needle.trans needle, c_ordinal.trans ordinal,
          c_position⟩
        rw [State.condition?_of_entries (same_entries.trans entries), found]
      refine ⟨fun ready => ?_, fun unready => ?_, fun off => ?_⟩
      · have ready' : a.readyNow h = true := readyNow.trans (decide_eq_true ready)
        refine ⟨fun m broken => turn (State.placeHead_ready_broken ready' (by rw [own, broken])),
          fun m waiting => turn (State.placeHead_ready_waiting ready' (by rw [own, waiting])), fun plain => ?_⟩
        have got := put (State.placeHead_ready_sound ready' (by rw [own]; exact plain))
        rw [ordinal, frontier, own] at got
        exact ⟨fun behind => got.trans (if_pos behind), fun level => got.trans (if_neg (Nat.not_lt.2 level))⟩
      · have unready' : a.readyNow h = false := readyNow.trans (decide_eq_false unready)
        refine ⟨fun m broken => ?_,
          fun m waiting => dropped (State.placeHead_unready_waiting unready' (by rw [own, waiting])), fun plain => ?_⟩
        · rw [put (State.placeHead_unready_broken unready' (by rw [own, broken])), own, HeadRecord.toBroken, broken]
        · have got := dropped (State.placeHead_unready_sound unready' (by rw [own]; exact plain))
          rw [frontier] at got
          exact got
      · rw [at_, State.placeHead_off (by rw [own, off]), own]
  have nobody {a : State} {n : Needle} {position : Option Position} (begins : begunFrom a)
      (needle : a.run.needle = some n) (none_ : noneSound n) : a.noneAfterPlace position := fun h => by
    obtain ⟨heads, enabled, needles⟩ := reads begins
    rw [State.placedRecord, enabled]
    by_cases on : s.enabled h = true
    · rw [if_pos on]
      refine State.placeHead_unsound ?_
      simp only [State.readyNow, needle, State.needleState, needles]
      exact decide_eq_false (none_.1 h on)
    · rw [if_neg on, heads]
      exact none_.2 h (Bool.eq_false_iff.2 on)
  have somebody {a : State} {n : Needle} {position : Option Position} {g : Head} (begins : begunFrom a)
      (needle : a.run.needle = some n) (on : s.enabled g = true) (ready : (s.needles.get n).perHead.get g = .ready)
      (state : (s.heads.get g).state ≠ .off) : ¬a.noneAfterPlace position := fun none_ => by
    obtain ⟨heads, enabled, needles⟩ := reads begins
    have ready' : a.readyNow g = true := by
      simp only [State.readyNow, needle, State.needleState, needles]
      exact decide_eq_true ready
    have unsound := none_ g
    rw [State.placedRecord, if_pos ((enabled g).trans on), State.placeHead_sound ready' (by rw [heads]; exact state)] at unsound
    cases unsound
  have atTdc {a : State} (begins : begunFrom a) (angle : a.shaft.angle = s.shaft.angle)
      (rests : a.shaft.atRest = s.shaft.atRest) (flag : a.shaft.pendingFlag = s.shaft.pendingFlag) : a.atTdc = true := by
    have config : a.config = s.config := by rw [begins]
    simpa only [State.atTdc, angle, rests, config, flag] using tdc
  have reading {a u t : State} {run : Run} {feed : Feed} {shaft : Shaft} {f : FrameUnit} {l : Link} {b : Option Burst}
      (begins : begunFrom a) (as : a.settlesAs u run feed shaft f l b t) : t.run = run ∧ t.feed = feed ∧ t.shaft = shaft ∧
        t.frame = f ∧ t.link = l ∧ same t ∧ t.heads = u.heads ∧ t.conditions = u.conditions ∧ State.granted b s t := by
    have granted := as.2
    have last : a.lastGranted = s.lastGranted := by rw [begins]
    unfold State.granted at granted
    rw [last] at granted
    refine ⟨?_, ?_, ?_, ?_, ?_, ⟨?_, ?_, ?_, ?_, ?_, ?_, ?_⟩, ?_, ?_, granted⟩
    all_goals rw [as.1]
    all_goals rw [begins]
  refine ⟨fun b d x net p n g design idle found startable known box stands on => ?_,
    fun p n g held known stands needle on => ?_⟩
  · intro first begun
    have runs : exec (.start [b]) s = .next ((s.beginRun d).reply 0x20 .ok .empty).settle := by
      refine (exec_of_served served rfl).trans ?_
      rw [performStart_eq design]
      refine congrArg Host.Outcome.next (State.checked_passed _ _ _ s ?_)
      have fits : s.extentFits d = true := by simp only [State.extentFits, known, found]; exact box
      have some_ : s.anyEnabled = true := anyEnabled_iff.2 ⟨g, on⟩
      simp [State.startChecks, firstRefusal, State.runExists, idle, line, found, Descriptor.isReady,
        Descriptor.isStartable, startable, known, FrameState.isKnown, stands, some_, tdc, fits]
    have started : ∃ a, s.beginRun d = a.placeHeads (some first) ∧ begunFrom a ∧ a.run = begun ∧ a.shaft = rested ∧
        a.feed = { activity := .filling, blocked := false, fetch := first } := by
      refine ⟨_, rfl, rfl, ?_, rfl, rfl⟩
      change s.run.begin d s.carriagePosition = _
      rw [stands]
      rfl
    obtain ⟨a, started, begins, a_run, a_shaft, a_feed⟩ := started
    have putTo := State.placeHeads_placedTo (s := a) (by rw [a_run]) (by rw [a_shaft]; exact unasked) (some first)
    rw [started] at runs
    generalize a.placeHeads (some first) = u at runs putTo
    have empty' : a.queue = [] := by rw [begins]; exact empty
    have unasked' : a.shaft.stopReq = .none := by rw [a_shaft]; exact unasked
    have none' : a.shaft.active = none := by rw [a_shaft]; exact none_
    have free' : a.run.pendingStop = false := by rw [a_run]; exact free
    have needle : a.run.needle = some n := by rw [a_run]
    have u_frame : u.frame = s.frame := by rw [putTo.frame, begins]
    have u_link : u.link = s.link := by rw [putTo.frame, begins]
    have place {t : State} := places (t := t) putTo begins needle (by rw [a_run]) (by rw [a_run])
    refine ⟨fun ready state => ?_, fun nobody_ still => ?_⟩
    · have as := putTo.goesOn (g := u.frame) (l := u.link.place ⟨0x20, .ok, .empty⟩) empty' none' unasked' free'
        (somebody begins needle on ready state)
      obtain ⟨run, feed, shaft, frame, link, kept, heads, conditions, granted⟩ := reading begins as
      exact ⟨_, runs, run.trans a_run, feed.trans a_feed, shaft.trans a_shaft, frame.trans u_frame,
        link.trans (by rw [u_link]), kept, place heads conditions, by rwa [begins] at granted⟩
    · have as := putTo.held (g := u.frame) (l := u.link.place ⟨0x20, .ok, .empty⟩) empty' none' unasked' free'
        (nobody begins needle nobody_) (by rw [a_shaft]; exact still) (atTdc begins (by rw [a_shaft]) (by rw [a_shaft]) (by rw [a_shaft])) (by rw [u_frame, known]; rfl)
      obtain ⟨run, feed, shaft, frame, link, kept, heads, conditions, granted⟩ := reading begins as
      refine ⟨_, runs, run.trans ?_, feed.trans ?_, shaft.trans a_shaft, frame.trans u_frame,
        link.trans (by rw [u_link]), kept, place heads conditions, ?_⟩
      · rw [a_run, a_feed]
      · rw [a_feed]
      · rw [State.idledBurst, begins] at granted
        exact granted
  · intro moves
    have runs : exec (.resume []) s = .next (s.resumeRun.reply 0x21 .ok .empty).settle := by
      refine (exec_of_served served rfl).trans ?_
      rw [performResume_eq]
      refine congrArg Host.Outcome.next (State.checked_passed _ _ _ s ?_)
      have some_ : s.anyEnabled = true := anyEnabled_iff.2 ⟨g, on⟩
      have held' : s.run.state.held = true := (held_iff _).2 held
      simp [State.resumeChecks, firstRefusal, held', line, known, FrameState.isKnown, stands, needle, some_, tdc]
    have resumed : ∃ a, s.resumeRun = (a.placeHeads s.run.resume).beginResidual ∧ begunFrom a ∧
        a.run = { s.run with state := .running, reason := .none, resume := none } ∧ a.shaft = rested ∧
        a.feed = { activity := .filling, blocked := false, fetch := refetch } := ⟨_, rfl, rfl, rfl, rfl, rfl⟩
    obtain ⟨a, resumed, begins, a_run, a_shaft, a_feed⟩ := resumed
    have putTo := State.placeHeads_placedTo (s := a) (by rw [a_run]) (by rw [a_shaft]; exact unasked) s.run.resume
    rw [resumed, State.beginResidual_eq] at runs
    generalize a.placeHeads s.run.resume = u at runs putTo
    have u_frame : u.frame.resumed u.config = s.frame.resumed s.config := by rw [putTo.frame, begins]
    have u_link : u.link = s.link := by rw [putTo.frame, begins]
    rw [State.reply, u_frame, u_link] at runs
    have empty' : a.queue = [] := by rw [begins]; exact empty
    have unasked' : a.shaft.stopReq = .none := by rw [a_shaft]; exact unasked
    have none' : a.shaft.active = none := by rw [a_shaft]; exact none_
    have free' : a.run.pendingStop = false := by rw [a_run]; exact free
    have needle' : a.run.needle = some n := by rw [a_run]; exact needle
    have place {t : State} := places (t := t) putTo begins needle' (by rw [a_run]) (by rw [a_run])
    have still_ (none_ : s.frame.residual = none) : s.frame.resumed s.config = s.frame :=
      FrameUnit.resumed_none none_ s.config
    have moving (r : Point) (residual : s.frame.residual = some r) (steps : r ≠ ⟨0, 0⟩) :=
      (FrameUnit.resumed_some residual s.config).trans (FrameUnit.beginMove_known known steps s.config .residual)
    have moves_of {t : State} (frame : t.frame = s.frame.resumed s.config) : moves t := fun r residual steps => by
      rw [frame, moving r residual steps]
      exact ⟨_, rfl, rfl, rfl, rfl, rfl, rfl, residual⟩
    refine ⟨fun ready state => ?_, fun nobody_ => ?_⟩
    · have as := putTo.goesOn (g := s.frame.resumed s.config) (l := s.link.place ⟨0x21, .ok, .empty⟩) empty' none' unasked'
        free' (somebody begins needle' on ready state)
      obtain ⟨run, feed, shaft, frame, link, kept, heads, conditions, granted⟩ := reading begins as
      exact ⟨_, runs, run.trans a_run, feed.trans a_feed, shaft.trans a_shaft, link, kept, place heads conditions,
        by rwa [begins] at granted, fun none_ => frame.trans (still_ none_), moves_of frame⟩
    · have none_left := nobody (position := s.run.resume) begins needle' nobody_
      obtain ⟨_, _, _, _, _, as⟩ := putTo.either (g := s.frame.resumed s.config) (l := s.link.place ⟨0x21, .ok, .empty⟩)
        empty' none' none_left
      obtain ⟨-, -, -, -, -, kept, heads, conditions, -⟩ := reading begins as
      refine ⟨_, runs, kept, place heads conditions, fun residual still => ?_, fun r residual steps => ?_⟩
      · have as := putTo.held (g := s.frame.resumed s.config) (l := s.link.place ⟨0x21, .ok, .empty⟩) empty' none' unasked'
          free' none_left (by rw [a_shaft]; exact still) (atTdc begins (by rw [a_shaft]) (by rw [a_shaft]) (by rw [a_shaft]))
          (by rw [still_ residual, known]; rfl)
        obtain ⟨run, feed, shaft, frame, link, -, -, -, granted⟩ := reading begins as
        refine ⟨run.trans ?_, feed.trans ?_, shaft.trans a_shaft, frame.trans (still_ residual), link, ?_⟩
        · rw [a_run, a_feed]
        · rw [a_feed]
        · rw [State.idledBurst, begins] at granted
          exact granted
      · have as := putTo.waits (g := s.frame.resumed s.config) (l := s.link.place ⟨0x21, .ok, .empty⟩) empty' none_left
          (by rw [moving r residual steps]; rfl)
        obtain ⟨run, feed, shaft, frame, link, -, -, -, granted⟩ := reading begins as
        refine ⟨run.trans ?_, feed.trans a_feed, shaft.trans ?_, link, by rwa [begins] at granted, moves_of frame⟩
        · rw [a_run]
        · rw [a_shaft]

end Sys2Proof.Proofs
end

section
/-! PROOFS. The walk of the path: its positions, what a record means to it, and its steps (R68 to R72, R160, R161). -/

namespace Sys2Proof.Machine

variable {s t x : State} {w : Walk} {p q r : Position} {len : Design → Nat}

/-! ## The record before a position (R69) -/

theorem prevPos_of_pos {f : ChainFrame} (pos : 0 < f.index) (callers : List ChainFrame) :
    prevPos len f callers = some ⟨{ f with index := f.index - 1 }, callers⟩ := by
  cases callers <;> exact if_pos pos

theorem prevPos_of_first {f : ChainFrame} (first : f.index = 0) (callers : List ChainFrame) : prevPos len f callers =
    match callers with
    | [] => none
    | c :: up => if 1 < f.rep then some ⟨{ f with index := len f.design - 2, rep := f.rep - 1 }, c :: up⟩
        else prevPos len c up := by
  cases callers <;> exact if_neg (by omega)

theorem recordsOf_exists {ws : List Word} (legal : ∀ u ∈ ws, decodeRecord u ≠ none) : ∃ rs, recordsOf ws = some rs := by
  induction ws with
  | nil => exact ⟨[], rfl⟩
  | cons u ws ih =>
    obtain ⟨y, decodes⟩ := Option.ne_none_iff_exists'.1 (legal u List.mem_cons_self)
    obtain ⟨rs, others⟩ := ih fun u' mem => legal u' (List.mem_cons_of_mem u mem)
    exact ⟨y :: rs, by simp only [recordsOf, decodes, others, Option.map_some]⟩

/-! ## The record at a position, and what it means (R69, R71) -/

/-- The latest burst of the walk holds the record `x` at `p` (R68). -/
def Walk.holds (w : Walk) (p : Position) (x : Record) : Prop :=
  ∃ h u, w.held = some h ∧ h.design = p.inner.design ∧ h.first ≤ p.inner.index ∧
    h.records[p.inner.index - h.first]? = some u ∧ decodeRecord u = some x

theorem Walk.record_of_holds {x : Record} (holds : w.holds p x) : w.record p = some x := by
  obtain ⟨h, u, held, design, first, found, decodes⟩ := holds
  simp only [Walk.record, held]
  rw [if_pos ⟨design, first⟩, found]
  exact decodes

/-- What the latest burst does not hold is to be read (R68). -/
theorem Walk.record_of_apart (apart : ∀ h, w.held = some h → h.design = p.inner.design →
    p.inner.index < h.first ∨ h.first + h.records.length ≤ p.inner.index) : w.record p = none := by
  unfold Walk.record
  split
  · rfl
  · rename_i h held
    split
    · rename_i within
      rcases apart h held within.1 with before | behind
      · exact absurd within.2 (Nat.not_le.2 before)
      · rw [List.getElem?_eq_none (by omega)]
        rfl
    · rfl

/-- What a record means to a walk, by its direction. -/
def Walk.found (w : Walk) (len : Design → Nat) (p : Position) (x : Record) : Found :=
  match w.dir with
  | .backward => foundBack len p x
  | .forward => foundForward len p x

theorem Walk.found_move {dx dy : Int} (len : Design → Nat) (p : Position) {x : Record}
    (moves : x = .stitch dx dy ∨ x = .jump dx dy) : w.found len p x = .move ⟨dx, dy⟩ := by
  unfold Walk.found
  rcases moves with rfl | rfl <;> cases w.dir <;> rfl

/-- A trace move over the record at `p` begins, by the direction of the walk (R70, R71). -/
def State.traceOver (w : Walk) (p : Position) (d : Point) (s : State) : State :=
  match w.dir with
  | .backward => s.traceBack w p d
  | .forward => s.traceForward w p d

theorem Position.enter_empty {motif : Design} (empty : len motif = 1) (p : Position) (reps : Nat) :
    p.enter len motif reps = p.next len :=
  settlePos_of_last (by exact empty.symm) (by simp [empty])

/-- The record that a walk reaches behind the one at `p` (R69, R71). -/
def Walk.next (w : Walk) (len : Design → Nat) (p q : Position) : Prop :=
  w.dir = .backward ∧ p.prev len = some q ∨ w.dir = .forward ∧ q = p.next len

/-- A TRIM, a PAUSE and a CALL of an empty motif are passed over (R69, R71). -/
theorem Walk.found_passed {y : Record} (next : w.next len p q)
    (passed : y = .trim ∨ y = .pause ∨ ∃ motif reps, y = .call motif reps ∧ len motif = 1) :
    w.found len p y = .again q := by
  unfold Walk.found
  rcases next with ⟨dir, prev⟩ | ⟨dir, rfl⟩
  · rw [dir]
    have at_ : Found.at? (p.prev len) = .again q := by rw [prev]; rfl
    rcases passed with rfl | rfl | ⟨motif, reps, rfl, empty⟩
    · exact at_
    · exact at_
    · exact (if_neg (by simp [empty])).trans at_
  · rw [dir]
    rcases passed with rfl | rfl | ⟨motif, reps, rfl, empty⟩
    · rfl
    · rfl
    · exact congrArg Found.again (Position.enter_empty empty p reps)

/-- Another CALL is entered: at its last record before END, or at its first record (R69, R71). -/
theorem Walk.found_call {motif : Design} (more : 1 < len motif) (p : Position) (reps : Nat) :
    w.found len p (.call motif reps) = .again (match w.dir with
      | .backward => ⟨⟨motif, len motif - 2, reps, reps⟩, p.inner :: p.callers⟩
      | .forward => ⟨⟨motif, 0, 1, reps⟩, p.inner :: p.callers⟩) := by
  unfold Walk.found
  cases w.dir with
  | backward => exact if_pos more
  | forward => exact congrArg Found.again (settlePos_of_off _ (by exact more.ne))

theorem State.walkTo_eq (w : Walk) (p : Position) (s : State) : s.walkTo w p = { s with
    run := { s.run with resume := if w.dir = .forward then some p else s.run.resume } } := by
  unfold State.walkTo
  cases w.dir <;> rfl

theorem State.walkFinished_iff : s.walkFinished w = true ↔ w.done = w.count ∨
    (w.dir = .backward ∧ s.run.ordinal = s.run.blockStart) ∨ (w.dir = .forward ∧ s.run.ordinal = s.run.frontier) := by
  unfold State.walkFinished
  cases w.dir <;> simp

/-! ## The steps of a walk -/

section Step

variable (walk : s.walk = some w)
include walk

theorem State.walkOn_finished {n : Nat} (resume : s.run.resume = some r) (ends : s.walkFinished w = true) :
    State.walkOn (n + 1) none s = s.endWalk := by
  simp only [State.walkOn, walk, resume]
  exact if_pos ends

/-- The test before a step passes, and the record `p` is examined (R70, R71). -/
theorem State.walkOn_step {n : Nat} (resume : s.run.resume = some r) (goesOn : s.walkFinished w = false)
    (next : w.dir = .backward ∧ r.prev s.len = some p ∨ w.dir = .forward ∧ p = r) :
    State.walkOn (n + 1) none s = State.walkOn n (some p) s := by
  simp only [State.walkOn, walk, resume]
  rw [if_neg (by simp [goesOn])]
  rcases next with ⟨dir, prev⟩ | ⟨dir, rfl⟩
  · simp only [dir, prev]
  · simp only [dir]

/-- A record that the latest burst does not hold is read (R68). -/
theorem State.walkOn_unread {n : Nat} (unread : w.record p = none) : State.walkOn (n + 1) (some p) s =
    { s with walk := some { w with want := some p }, feed := { s.feed with fetch := p } } := by
  simp only [State.walkOn, walk, unread]

theorem State.walkOn_again {n : Nat} {x : Record} (record : w.record p = some x) (found : w.found s.len p x = .again q) :
    State.walkOn (n + 1) (some p) s = State.walkOn n (some q) (s.walkTo w q) := by
  unfold Walk.found at found
  cases dir : w.dir
  all_goals
    simp only [dir] at found
    simp only [State.walkOn, walk, record, dir, found]

theorem State.walkOn_move {n : Nat} {x : Record} {d : Point} (record : w.record p = some x)
    (found : w.found s.len p x = .move d) : State.walkOn (n + 1) (some p) s =
      if (s.traceOver w p d).frame.state.isMoving then s.traceOver w p d else State.walkOn n none (s.traceOver w p d) := by
  unfold Walk.found at found
  unfold State.traceOver
  cases dir : w.dir
  all_goals
    simp only [dir] at found
    simp only [State.walkOn, walk, record, dir, found]

end Step

/-- The state in which an accepted walk makes its first test (R58, R68, log 32). -/
def State.walkBegun (dir : WalkDir) (count : Nat) (s : State) : State := { s with
  run := { s.run with state := .backing }
  feed := { activity := .walking, blocked := false, fetch := s.run.resume.getD s.feed.fetch }
  walk := some ⟨dir, count, 0, none, none⟩ }

theorem State.beginWalk_eq (dir : WalkDir) (count : Nat) (s : State) :
    s.beginWalk dir count = State.walkOn (299 + 1) none (s.walkBegun dir count) := rfl

/-! ## A trace move -/

/-- The run at the begin of a trace move over the record at `p` (R55, R70, R71). -/
def State.tracedRun (s : State) (dir : WalkDir) (p : Position) : Run :=
  match dir with
  | .backward => { s.run with ordinal := s.run.ordinal - 1, resume := some p, chain := some p }
  | .forward => { s.run with
      ordinal := min (s.run.ordinal + 1) 4294967295, resume := some (p.next s.len), chain := some p }

/-- The displacement of a trace move over a record with the displacement `d` (R70, R71, R74). -/
def traceDisp (dir : WalkDir) (d : Point) : Point :=
  match dir with
  | .backward => ⟨-2 * d.x, -2 * d.y⟩
  | .forward => ⟨2 * d.x, 2 * d.y⟩

theorem State.traceOver_eq (w : Walk) (p : Position) (d : Point) (s : State) : s.traceOver w p d = { s with
    walk := some { w with done := w.done + 1, want := none }, run := s.tracedRun w.dir p
    frame := s.frame.beginMove s.config .trace (traceDisp w.dir d)
    heads := (s.traceOver w p d).heads, conditions := (s.traceOver w p d).conditions
    changes := (s.traceOver w p d).changes } := by
  obtain ⟨dir, count, done, held, want⟩ := w
  cases dir with
  | backward => rfl
  | forward =>
    have shape : s.traceOver ⟨.forward, count, done, held, want⟩ p d = State.rejoin { s with
      walk := some ⟨.forward, count, done + 1, held, none⟩, run := s.tracedRun .forward p
      frame := s.frame.beginMove s.config .trace (traceDisp .forward d) } := rfl
    have joined := State.rejoin_eq { s with
      walk := some ⟨.forward, count, done + 1, held, none⟩, run := s.tracedRun .forward p
      frame := s.frame.beginMove s.config .trace (traceDisp .forward d) }
    rw [shape]
    generalize State.rejoin _ = y at joined ⊢
    rw [joined]

theorem State.traceOver_calm (w : Walk) (p : Position) (d : Point) (s : State) :
    (s.traceOver w p d).run.state = s.run.state ∧ (s.traceOver w p d).shaft = s.shaft := by
  have eq := s.traceOver_eq w p d
  generalize s.traceOver w p d = y at eq ⊢
  rw [eq]
  refine ⟨?_, rfl⟩
  cases dir : w.dir <;> rfl

/-- A move of no steps is at its end at once (R75). -/
theorem State.traceOver_zero (w : Walk) (p : Position) (s : State) : (s.traceOver w p ⟨0, 0⟩).frame = s.frame := by
  have eq := s.traceOver_eq w p ⟨0, 0⟩
  have zero : traceDisp w.dir ⟨0, 0⟩ = ⟨0, 0⟩ := by cases w.dir <;> rfl
  generalize s.traceOver w p ⟨0, 0⟩ = y at eq ⊢
  rw [eq, zero]
  exact FrameUnit.beginMove_zero _ _ _

/-- Waiting heads rejoin at a forward step, and a backward one leaves the heads (R70, R148). -/
theorem State.traceOver_rejoined (w : Walk) (p : Position) (d : Point) (s : State) :
    (w.dir = .backward → (s.traceOver w p d).heads = s.heads ∧ (s.traceOver w p d).conditions = s.conditions ∧
      (s.traceOver w p d).changes = s.changes) ∧
    (w.dir = .forward → ∀ h, (s.traceOver w p d).heads.get h =
      (s.heads.get h).rejoin (min (s.run.ordinal + 1) 4294967295)) := by
  refine ⟨fun dir => ?_, fun dir h => ?_⟩
  all_goals simp only [State.traceOver, dir]
  · exact ⟨rfl, rfl, rfl⟩
  · rw [State.traceForward, State.rejoin_eq, Table.get_map]
    rfl

theorem HeadRecord.rejoin_due {y : HeadRecord} {m n : Nat} (state : y.state = .waiting m) (due : m ≤ n) :
    (y.rejoin n).state = .sewing := by
  rw [HeadRecord.rejoin_state, state]
  exact if_pos due

theorem HeadRecord.rejoin_early {y : HeadRecord} {n : Nat} (early : ∀ m, y.state = .waiting m → n < m) :
    y.rejoin n = y := by
  unfold HeadRecord.rejoin
  split
  · rename_i m state
    exact if_neg (Nat.not_le.2 (early m state))
  all_goals rfl

theorem State.endWalk_eq (walk : s.walk = some w) : s.endWalk = { s with
    walk := none, run := { s.run with state := .stopped, lastTrace := w.done, pendingStop := false }
    feed := { s.feed with activity := .idle, blocked := false }, burst := s.idledBurst, queue := []
    shaft := { s.shaft with stopReq := .none }, link := { s.link with runChange := true } } := by
  simp only [State.endWalk, walk]
  rfl

end Sys2Proof.Machine

namespace Sys2Proof.Proofs
open Sys2Proof.Machine

/-- Settles O48: each clause runs `walkOn` a record at a time, to a trace move, a record to read, or its end. -/
theorem walks : Obligations.Walks := by
  refine ⟨fun len f callers => ⟨fun pos => prevPos_of_pos pos callers, fun first none_ => ?_, fun c up first some_ => ?_⟩,
    fun s none_ calm => ?_⟩
  · subst none_
    exact prevPos_of_first first []
  · subst some_
    have prev : Position.prev len ⟨f, c :: up⟩ = _ := prevPos_of_first first (c :: up)
    exact ⟨fun more => prev.trans (if_pos more), fun last => prev.trans (if_neg (Nat.not_lt.2 last))⟩
  intro ended stepped rejoined traced
  have rejoined_of {b : Option Burst} {x : State} {v : Walk} {p : Position} {d : Point} {f : FrameUnit}
      (base : x = { s with
        burst := b, walk := x.walk, run := { s.run with resume := x.run.resume }, frame := f }) :
      rejoined v.dir (x.traceOver v p d) := by
    obtain ⟨back, forward⟩ := x.traceOver_rejoined v p d
    have heads : x.heads = s.heads := by rw [base]
    have ordinal : x.run.ordinal = s.run.ordinal := by rw [base]
    refine ⟨fun dir => ?_, fun dir h => ⟨fun m state due => ?_, fun early => ?_⟩⟩
    · obtain ⟨h1, h2, h3⟩ := back dir
      exact ⟨h1.trans heads, h2.trans (by rw [base]), h3.trans (by rw [base])⟩
    all_goals rw [forward dir h, heads, ordinal]
    · exact HeadRecord.rejoin_due state due
    · exact HeadRecord.rejoin_early early
  have traced_of {b : Bool} {x : State} {v : Walk} {p : Position} {q d : Point}
      (base : x = { s with
        burst := if b then none else s.burst, walk := x.walk, run := { s.run with resume := x.run.resume }
        frame := { s.frame with state := .known q } }) (steps : d ≠ ⟨0, 0⟩) :
      (x.traceOver v p d).frame.state.isMoving = true ∧ traced b v p q d (x.traceOver v p d).arbitrate := by
    have rejoins := rejoined_of (v := v) (p := p) (d := d) base
    have disp : traceDisp v.dir d ≠ ⟨0, 0⟩ := by
      obtain ⟨dx, dy⟩ := d
      cases v.dir <;> simpa [traceDisp] using steps
    have eq := x.traceOver_eq v p d
    have moves := FrameUnit.beginMove_known (f := x.frame) (p := q) (by rw [base]) disp x.config .trace
    generalize x.traceOver v p d = y at rejoins eq ⊢
    have frame : y.frame = _ := (congrArg State.frame eq).trans moves
    have x_frame : x.frame = { s.frame with state := .known q } := by rw [base]
    have run : x.tracedRun v.dir p = stepped v.dir p := by
      rw [base]
      cases v.dir <;> rfl
    have config : x.config = s.config := by rw [base]
    refine ⟨by rw [frame]; rfl, ?_, ?_, ?_⟩
    · rw [State.upToGrant, State.arbitrate_frame, State.arbitrate_heads, State.arbitrate_conditions,
        State.arbitrate_changes]
      refine congrArg State.arbitrate ?_
      rw [run] at eq
      rw [eq, base]
    · simpa only [rejoined, State.arbitrate_heads, State.arbitrate_conditions, State.arbitrate_changes] using rejoins
    · rw [State.arbitrate_frame, frame, x_frame, config]
      refine ⟨_, rfl, rfl, rfl, rfl, ?_, rfl, rfl, rfl⟩
      cases v.dir <;> rfl
  have ended_of {b : Bool} {x y : State} {v : Walk} (walk : x.walk = some v)
      (burst : x.burst = if b then none else s.burst) (last : x.lastGranted = s.lastGranted) (shaft : x.shaft = s.shaft)
      (put : y = { x.endWalk with link := y.link, stopLine := y.stopLine }) (flag : y.link.runChange = true) :
      y.settle = y.arbitrate ∧ ended b x.run v.done y.arbitrate ∧ y.arbitrate.frame = x.frame ∧
        y.arbitrate.heads = x.heads := by
    have eq := State.endWalk_eq walk
    generalize x.endWalk = z at eq put
    rw [eq] at put
    have y_shaft : y.shaft = s.shaft := by rw [put, shaft, ← calm]
    have y_burst : y.burst = if b then none else s.idledBurst := by
      rw [put, State.idledBurst, burst]
      cases b <;> rfl
    refine ⟨State.settle_of_not_sewing y (by rw [put]; rfl) (by rw [y_shaft, none_]), ⟨?_, ?_, ?_, ?_, ?_, ?_,
      State.granted_of y_burst (by rw [put, last])⟩, ?_, ?_⟩
    · rw [State.arbitrate_run, put]
    · rw [State.arbitrate_walk, put]
    · rw [State.arbitrate_queue, put]
    · rw [State.arbitrate_feed, put]
    · rw [State.arbitrate_link, flag]
    · rw [State.arbitrate_shaft, y_shaft]
    · rw [State.arbitrate_frame, put]
    · rw [State.arbitrate_heads, put]
  have settles {x : State} (run : x.run.state = .backing) (shaft : x.shaft = s.shaft) : x.settle = x.arbitrate :=
    State.settle_of_not_sewing x (by simp [State.sewing, run]) (by rw [shaft, none_])
  refine ⟨fun n0 n1 r served stopped line known tdc low high resume => ?_,
    fun w p b q backing walking walk want known burst feed fresh inside => ?_,
    fun m w r backing moving trace last walk resume => ?_, fun w backing walk free => ?_⟩
  · intro walking none?
    have back : exec (.back [n0, n1]) s =
        .next ((s.beginWalk .backward (half n0 n1).toNat).reply 0x25 .ok .empty).arbitrate := by
      refine (exec_of_served served rfl).trans ?_
      rw [performBack_eq]
      refine congrArg Host.Outcome.next (State.checked_passed _ _ _ s ?_)
      simp [State.walkChecks, firstRefusal, low, high, stopped, line, known, tdc]
    have forward : exec (.forward [n0, n1]) s =
        .next ((s.beginWalk .forward (half n0 n1).toNat).reply 0x26 .ok .empty).arbitrate := by
      refine (exec_of_served served rfl).trans ?_
      rw [performForward_eq]
      refine congrArg Host.Outcome.next (State.checked_passed _ _ _ s ?_)
      simp [State.walkChecks, firstRefusal, low, high, stopped, line, known, tdc]
    have fresh : (0 : Nat) ≠ (half n0 n1).toNat := by omega
    have goes {dir : WalkDir} {p : Position} (clear : ¬(dir = .backward ∧ s.run.ordinal = s.run.blockStart ∨
        dir = .forward ∧ s.run.ordinal = s.run.frontier))
        (next : dir = .backward ∧ r.prev s.len = some p ∨ dir = .forward ∧ p = r) (code : Byte) :
        (s.beginWalk dir (half n0 n1).toNat).reply code .ok .empty = walking code dir p := by
      have goesOn : (s.walkBegun dir (half n0 n1).toNat).walkFinished ⟨dir, (half n0 n1).toNat, 0, none, none⟩ = false :=
        Bool.eq_false_iff.2 (mt State.walkFinished_iff.1 (not_or.2 ⟨fresh, clear⟩))
      rw [State.beginWalk_eq, State.walkOn_step rfl (by exact resume) goesOn (by exact next),
        State.walkOn_unread (n := 298) rfl rfl]
      rfl
    have ends {dir : WalkDir} (stands : dir = .backward ∧ s.run.ordinal = s.run.blockStart ∨
        dir = .forward ∧ s.run.ordinal = s.run.frontier) (code : Byte) :
        none? ((s.beginWalk dir (half n0 n1).toNat).reply code .ok .empty).arbitrate := by
      have finished : (s.walkBegun dir (half n0 n1).toNat).walkFinished ⟨dir, (half n0 n1).toNat, 0, none, none⟩ = true :=
        State.walkFinished_iff.2 (.inr stands)
      rw [State.beginWalk_eq, State.walkOn_finished rfl (by exact resume) finished]
      exact (ended_of (b := false) (x := s.walkBegun dir (half n0 n1).toNat) (y := State.reply code .ok .empty _) rfl rfl rfl
        rfl rfl (Link.place_runChange ..)).2
    refine ⟨fun apart p prev => ⟨_, back, ?_⟩, fun stands => ⟨_, back, ends (.inl ⟨rfl, stands⟩) _⟩,
      fun apart => ⟨_, forward, ?_⟩, fun stands => ⟨_, forward, ends (.inr ⟨rfl, stands⟩) _⟩⟩
    · rw [goes (by simpa using apart) (.inl ⟨rfl, prev⟩)]
      rfl
    · rw [goes (by simpa using apart) (.inr ⟨rfl, rfl⟩)]
      rfl
  · intro words v found moves legal
    obtain ⟨records, decoded⟩ := recordsOf_exists legal
    have x_ : ∃ x, x = { s with burst := none, walk := some { v with want := none } } := ⟨_, rfl⟩
    obtain ⟨x, base⟩ := x_
    have runs : exec .burstComplete s = .next (State.walkOn (299 + 1) (some p) x).settle := by
      have words_eq : readRegion s.store b.base b.first b.count = words := readRegion_eq ..
      have done := exec_burstComplete_feed burst inside feed fresh (words_eq ▸ decoded)
      rw [done, words_eq]
      simp only [State.feedBurst, walking, State.walkRead, walk, want]
      rw [base]
      rfl
    have x_walk : x.walk = some { v with want := none } := by rw [base]
    have holds {p' : Position} {y : Record} (same : p'.inner.design = p.inner.design) (at_ : found p' y) :
        Walk.record { v with want := none } p' = some y := by
      obtain ⟨first, u, word, decodes⟩ := at_
      exact Walk.record_of_holds ⟨_, u, rfl, same.symm, first, word, decodes⟩
    have record {p' : Position} {dx dy : Int} (same : p'.inner.design = p.inner.design) (at_ : moves p' dx dy) :
        ∃ y, Walk.record { v with want := none } p' = some y ∧
          Walk.found { v with want := none } s.len p' y = .move ⟨dx, dy⟩ := by
      rcases at_ with at_ | at_
      · exact ⟨_, holds same at_, Walk.found_move _ _ (.inl rfl)⟩
      · exact ⟨_, holds same at_, Walk.found_move _ _ (.inr rfl)⟩
    have nonzero {dx dy : Int} (steps : dx ≠ 0 ∨ dy ≠ 0) : (⟨dx, dy⟩ : Point) ≠ ⟨0, 0⟩ := by
      simpa [imp_iff_not_or] using steps
    have len : x.len = s.len := by rw [base]; rfl
    have base_run : x = { s with
        burst := none, walk := x.walk, run := { s.run with resume := x.run.resume }
        frame := { s.frame with state := .known q } } := by
      rw [base, ← known]
    have tracing {n : Nat} {z : State} {p' : Position} {d : Point} {y : Record}
        (base : z = { s with
          burst := none, walk := z.walk, run := { s.run with resume := z.run.resume }
          frame := { s.frame with state := .known q } })
        (z_walk : z.walk = some { v with want := none }) (record : Walk.record { v with want := none } p' = some y)
        (found : Walk.found { v with want := none } s.len p' y = .move d) (steps : d ≠ ⟨0, 0⟩) :
        traced true v p' q d (State.walkOn (n + 1) (some p') z).settle := by
      have len : z.len = s.len := by rw [base]; rfl
      obtain ⟨moving, made⟩ := traced_of (b := true) (v := { v with want := none }) (p := p') base steps
      obtain ⟨run, shaft⟩ := State.traceOver_calm { v with want := none } p' d z
      rw [State.walkOn_move z_walk record (len ▸ found), if_pos moving,
        settles (run.trans (by rw [base, backing])) (shaft.trans (by rw [base]))]
      exact made
    refine ⟨fun dx dy at_ => ⟨fun steps => ?_, fun zx zy ends => ?_⟩, fun passed p' dx dy next same at_ steps => ?_,
      fun motif reps call apart more => ?_⟩
    · obtain ⟨y, record, found⟩ := record rfl at_
      exact ⟨_, runs, tracing base_run x_walk record found (nonzero steps)⟩
    · obtain ⟨y, record, found⟩ := record rfl at_
      rw [zx, zy] at found
      have still : (x.traceOver { v with want := none } p ⟨0, 0⟩).frame = s.frame := by
        rw [State.traceOver_zero, base]
      have traced := x.traceOver_eq { v with want := none } p ⟨0, 0⟩
      have rejoins := rejoined_of (v := { v with want := none }) (p := p) (d := ⟨0, 0⟩) base_run
      rw [State.walkOn_move x_walk record (len ▸ found), still, if_neg (by simp [known, FrameState.isMoving])] at runs
      generalize x.traceOver { v with want := none } p ⟨0, 0⟩ = z at runs still traced rejoins
      have z_run : z.run = stepped w.dir p := by
        rw [traced, base]
        change State.tracedRun _ w.dir p = _
        cases w.dir <;> rfl
      have z_resume : ∃ r', z.run.resume = some r' := by
        rw [z_run]
        cases w.dir <;> exact ⟨_, rfl⟩
      obtain ⟨r', z_resume⟩ := z_resume
      have z_walk : z.walk = some { v with done := w.done + 1, want := none } := by rw [traced]
      have finished : z.walkFinished { v with done := w.done + 1, want := none } = true := by
        refine State.walkFinished_iff.2 (ends.imp_right ?_)
        rw [z_run]
        refine Or.imp (fun ⟨dir, stands⟩ => ⟨dir, ?_⟩) (fun ⟨dir, stands⟩ => ⟨dir, ?_⟩)
        all_goals
          rw [dir]
          exact stands
      rw [State.walkOn_finished z_walk z_resume finished] at runs
      obtain ⟨settled, ended, frame, heads⟩ := ended_of (b := true) (x := z) (y := z.endWalk) z_walk
        (by rw [traced, base]; rfl) (by rw [traced, base]) (by rw [traced, base]) rfl rfl
      rw [settled] at runs
      refine ⟨_, runs, z_run ▸ ended, ?_, frame.trans still⟩
      have eq := State.endWalk_eq z_walk
      generalize z.endWalk = y at eq heads ⊢
      have table : y.conditions = z.conditions ∧ y.changes = z.changes := by rw [eq]; exact ⟨rfl, rfl⟩
      simpa only [rejoined, heads, State.arbitrate_conditions, State.arbitrate_changes, table.1, table.2] using rejoins
    · obtain ⟨y, passes, kind⟩ : ∃ y, found p y ∧ (y = .trim ∨ y = .pause ∨ ∃ motif reps, y = .call motif reps ∧ s.len motif = 1) := by
        rcases passed with at_ | at_ | ⟨motif, reps, at_, empty⟩
        · exact ⟨_, at_, .inl rfl⟩
        · exact ⟨_, at_, .inr (.inl rfl)⟩
        · exact ⟨_, at_, .inr (.inr ⟨motif, reps, rfl, empty⟩)⟩
      obtain ⟨y', record, found'⟩ := record same at_
      rw [State.walkOn_again x_walk (holds rfl passes) (len ▸ Walk.found_passed next kind)] at runs
      have walked := x.walkTo_eq { v with want := none } p'
      generalize x.walkTo { v with want := none } p' = z at runs walked
      refine ⟨_, runs, tracing ?_ (by rw [walked]; exact x_walk) record found' (nonzero steps)⟩
      rw [walked, base, ← known]
    · intro p'
      have walked := x.walkTo_eq { v with want := none } p'
      have entered : Walk.found { v with want := none } s.len p (.call motif reps) = .again p' :=
        Walk.found_call more p reps
      have design : p'.inner.design = motif := by
        simp only [p']
        cases w.dir <;> rfl
      have apart' : Walk.record { v with want := none } p' = none :=
        Walk.record_of_apart fun h held same => by
          obtain rfl := Option.some.inj held
          exact absurd (design.symm.trans same.symm) apart
      clear_value p'
      rw [State.walkOn_again (n := 298 + 1) x_walk (holds rfl call) (len ▸ entered)] at runs
      generalize x.walkTo { v with want := none } p' = z at runs walked
      rw [State.walkOn_unread (w := { v with want := none }) (by rw [walked]; exact x_walk) apart',
        settles (by rw [walked, base]; exact backing) (by rw [walked, base])] at runs
      refine ⟨_, runs, ?_⟩
      rw [walked, base]
      rfl
  · intro target home atEnd
    have arrived : s.frame.arrived m = home := by
      rw [FrameUnit.arrived, if_neg (by simp [trace])]
    have x_ : ∃ x, x = { s with frame := home } := ⟨_, rfl⟩
    obtain ⟨x, base⟩ := x_
    have runs : exec .moveComplete s =
        .next (if s.run.pendingStop then x.endWalk else State.walkOn (299 + 1) none x).arbitrate := by
      rw [exec_moveComplete_arrived moving last, trace, arrived, base]
      rfl
    have x_walk : x.walk = some w := by rw [base]; exact walk
    have x_resume : x.run.resume = some r := by rw [base]; exact resume
    have len : x.len = s.len := by rw [base]; rfl
    refine ⟨fun stops => ?_, fun free goesOn p next => ?_⟩
    · have ends : (if s.run.pendingStop then x.endWalk else State.walkOn (299 + 1) none x) = x.endWalk := by
        by_cases pending : s.run.pendingStop = true
        · exact if_pos pending
        · refine (if_neg pending).trans (State.walkOn_finished x_walk x_resume (State.walkFinished_iff.2 ?_))
          rw [base]
          exact stops.resolve_left pending
      obtain ⟨-, done, frame, heads⟩ := ended_of (b := false) (y := x.endWalk) x_walk (by rw [base]; rfl) (by rw [base])
        (by rw [base]) rfl rfl
      rw [ends] at runs
      rw [show x.run = s.run by rw [base]] at done
      exact ⟨_, runs, done, frame.trans (by rw [base]), heads.trans (by rw [base])⟩
    · have unfinished : x.walkFinished w = false := by
        refine Bool.eq_false_iff.2 (mt State.walkFinished_iff.1 ?_)
        rw [base]
        exact goesOn
      rw [if_neg (by simp [free]),
        State.walkOn_step (n := 298 + 1) x_walk x_resume unfinished (by rw [len]; exact next)] at runs
      refine ⟨fun apart => ?_, fun h u dx dy held same first word decodes steps => ?_⟩
      · rw [State.walkOn_unread x_walk (Walk.record_of_apart apart)] at runs
        refine ⟨_, runs, ?_⟩
        rw [base]
        rfl
      · have kind : ∃ y, decodeRecord u = some y ∧ (y = .stitch dx dy ∨ y = .jump dx dy) := by
          rcases decodes with decodes | decodes
          · exact ⟨_, decodes, .inl rfl⟩
          · exact ⟨_, decodes, .inr rfl⟩
        obtain ⟨y, decodes, kind⟩ := kind
        have record := Walk.record_of_holds ⟨h, u, held, same, first, word, decodes⟩
        have nonzero : (⟨dx, dy⟩ : Point) ≠ ⟨0, 0⟩ := by simpa [imp_iff_not_or] using steps
        obtain ⟨moves, made⟩ := traced_of (b := false) (v := w) (p := p) (q := target) (x := x)
          (by rw [base]; rfl) nonzero
        rw [State.walkOn_move x_walk record (Walk.found_move _ _ kind), if_pos moves] at runs
        exact ⟨_, runs, made⟩
  · intro waits ends answered
    have exists_ : s.runExists = true := decide_eq_true (by simp [backing])
    have cut (x : State) (reason : StopReason) (state : x.run.state = .backing) (free : x.run.pendingStop = false) :
        x.stopRun reason = x.cutWalk reason := by
      simp only [State.stopRun, state]
      exact if_neg (by simp [free])
    have stop (served : s.served) :
        exec (.stop []) s = .next ((s.cutWalk .hostStop).reply 0x22 .ok .empty).settle := by
      refine (exec_of_served served rfl).trans ?_
      rw [performStop_eq, if_pos exists_, cut s _ backing free]
    have quick (served : s.served) :
        exec (.quickStop []) s = .next ((s.cutWalk .quickStop).reply 0x23 .ok .empty).settle := by
      refine (exec_of_served served rfl).trans ?_
      rw [performQuickStop_eq, if_pos exists_]
      simp only [State.quickStopRun, backing]
    have line (off : s.stopLine = false) :
        exec .stopLineActive s = .next (State.cutWalk .stopLine { s with stopLine := true }).settle := by
      rw [exec_stopLineActive off, cut _ _ (by exact backing) (by exact free)]
    refine ⟨fun moving => ?_, fun unmoved => ?_⟩
    · have waited (x : State) (reason : StopReason) (moving : x.frame.state.isMoving = true) :
          x.cutWalk reason = { x with run := { x.run with pendingStop := true, reason := reason } } := if_pos moving
      refine ⟨fun served => ⟨⟨_, stop served, ?_⟩, ⟨_, quick served, ?_⟩⟩, fun off => ⟨_, line off, ?_⟩⟩
      · rw [waited s _ moving, State.upToGrant, settles (by exact backing) (by rfl)]
        rfl
      · rw [waited s _ moving, State.upToGrant, settles (by exact backing) (by rfl)]
        rfl
      · rw [waited _ _ (by exact moving), State.upToGrant, settles (by exact backing) (by rfl)]
    · have stopped (x : State) (reason : StopReason) (unmoved : x.frame.state.isMoving = false) :
          x.cutWalk reason = State.endWalk { x with run := { x.run with pendingStop := true, reason := reason } } :=
        if_neg (by simp [unmoved])
      have stale {x y : State} (walked : x.walk = some w) (kept : x.burst = s.burst)
          (put : y = { x.endWalk with link := y.link, stopLine := y.stopLine }) {b : Burst} (held : s.burst = some b)
          (feed : b.claimant = .feed) : y.arbitrate.burst = some { b with stale := true } := by
        have y_burst : y.burst = some { b with stale := true } := by
          rw [put, State.endWalk_eq walked, State.idledBurst, kept, held]
          exact congrArg some (if_pos feed)
        rw [State.arbitrate_of_busy y_burst, y_burst]
      have holding {x y : State} {reason : StopReason} (walked : x.walk = some w) (kept : x.burst = s.burst)
          (last : x.lastGranted = s.lastGranted) (shaft : x.shaft = s.shaft) (frame : x.frame = s.frame)
          (heads : x.heads = s.heads) (run : x.run = { s.run with pendingStop := true, reason := reason })
          (put : y = { x.endWalk with link := y.link, stopLine := y.stopLine }) (flag : y.link.runChange = true) :
          ends reason y.settle := by
        obtain ⟨settled, done, y_frame, y_heads⟩ := ended_of (b := false) walked (by exact kept) last shaft put flag
        rw [run] at done
        rw [settled]
        exact ⟨done, y_frame.trans frame, y_heads.trans heads, fun b held feed => stale walked kept put held feed⟩
      refine ⟨fun served => ⟨⟨_, stop served, ?_⟩, ⟨_, quick served, ?_⟩⟩, fun off => ⟨_, line off, ?_, ?_⟩⟩
      · rw [stopped s _ unmoved]
        exact holding (x := { s with run := { s.run with pendingStop := true, reason := .hostStop } }) walk rfl rfl rfl rfl rfl
          rfl rfl (Link.place_runChange ..)
      · rw [stopped s _ unmoved]
        exact holding (x := { s with run := { s.run with pendingStop := true, reason := .quickStop } }) walk rfl rfl rfl rfl rfl
          rfl rfl (Link.place_runChange ..)
      · rw [stopped _ _ (by exact unmoved)]
        exact holding (x := { s with stopLine := true, run := { s.run with pendingStop := true, reason := .stopLine } }) walk rfl
          rfl rfl rfl rfl rfl rfl rfl
      · rw [stopped _ _ (by exact unmoved), State.settle_of_not_sewing _ (by rfl) (by exact none_), State.arbitrate_stopLine]
        rfl

end Sys2Proof.Proofs
end
